-- ==== Sys2Proof/Word.lean ====
section
/-! DEFINITION. The plainest types of the BF4850: bytes, serials, station numbers, digits, bands and periods
(spec/00 "Numbers and quantities"). -/

namespace Sys2Proof

/-- One byte on either port. -/
abbrev Byte := BitVec 8

/-- A card serial: a 32-bit unsigned number (spec/00). -/
abbrev Serial := BitVec 32

/-- A card telephone. Station `s` of the manual, 1 to 48, is the value `s - 1`. -/
abbrev StationId := Fin 48

/-- A decimal digit. -/
abbrev Digit := Fin 10

/-- A destination price class, 0 to 15. -/
abbrev Band := Fin 16

/-- A time-of-day price class, 0 to 3. -/
abbrev Period := Fin 4

end Sys2Proof
end

