-- ==== Sys2Proof/Syntax.lean ====
section
/-! DEFINITION. The commands of the BF4850: one constructor per row of spec/opcode_table.json.
A command whose data the state already holds (a frame taken from an inbound queue) has no operand (log 1). -/

namespace Sys2Proof

/-- The events of spec/opcode_table.json, in the table's order. -/
inductive Instr where
  /-- Application of power or release of RESET (R5, R142). -/
  | powerUp
  /-- RESET becomes asserted (R161, R175). -/
  | resetAsserted
  /-- The main supply fails (R141). -/
  | powerLoss
  /-- VBAK falls below 2.2 V (R142). -/
  | vbakLost
  /-- A frame ends on the row line; `bytes` are the bytes heard from its first one on (R147, R150). -/
  | rowFrameReceived (bytes : List Byte)
  /-- The head of the row inbound queue, a CARD_IN, is taken (R6, R64). -/
  | cardIn
  /-- The head of the row inbound queue, a CARD_OUT, is taken (R7). -/
  | cardOut
  /-- The head of the row inbound queue, a NUMBER, is taken (R9). -/
  | number
  /-- The head of the row inbound queue, a HOOK_ON, is taken (R8). -/
  | hookOn
  /-- The head of the row inbound queue, a BURN_REPORT, is taken (R84). -/
  | burnReport
  /-- The row line has become free (R148, R155). -/
  | lineFree
  /-- The row line has been quiet for 20 ms in RETRY (R155). -/
  | retry
  /-- Read-back finds another sender on the line (R148). -/
  | spoiledTransmission
  /-- The acknowledge slot ends; `heard` is the byte complete by its end, if there is one (R149, R156). -/
  | acknowledgeSlot (heard : Option Byte)
  /-- A whole broadcast transmission ends (R158). -/
  | broadcastSent
  /-- A frame ends on the inbound path of the link; `bytes` are the bytes heard (R163, R164). -/
  | linkFrameReceived (bytes : List Byte)
  /-- The head of the link inbound queue, a CALL_ANSWERED, is taken (R12, R19). -/
  | callAnswered
  /-- The head of the link inbound queue, a CALL_CLEAR, is taken (R17 to R19). -/
  | callClear
  /-- The head of the link inbound queue, a CALL_RELEASED, is taken (R16, R19). -/
  | callReleased
  /-- The head of the link inbound queue, a CLOCK, is taken (R123). -/
  | clock
  /-- The transmission on the link's transmit path ends (R170). -/
  | linkFrameSent
  /-- The head of the link inbound queue, a SELECT_PAGE request, is taken (R179). -/
  | selectPage
  /-- A WRITE_ENTRIES request is taken (R180). -/
  | writeEntries
  /-- A READ_ENTRIES request is taken (R182). -/
  | readEntries
  /-- An ACTIVATE_BANK request is taken (R115). -/
  | activateBank
  /-- A SET_SERVICE request is taken (R183). -/
  | setService
  /-- A SET_STATION request is taken (R184). -/
  | setStation
  /-- A READ_STATION request is taken (R185). -/
  | readStation
  /-- A READ_STATUS request is taken (R186). -/
  | readStatus
  /-- A FETCH_RECORD request is taken (R139). -/
  | fetchRecord
  /-- A RELEASE_RECORDS request is taken (R140). -/
  | releaseRecords
  /-- A REMOVE_AUTOBAR request is taken (R63). -/
  | removeAutobar
  /-- A RESTART_LINE request is taken (R188). -/
  | restartLine
  /-- A request whose name is none of the twelve is taken (R178 step 1). -/
  | mgmtRequestUnknown
  /-- The answer timer of station `s` expires (R13). -/
  | answerTimerExpiry (s : StationId)
  /-- The release timer of station `s` expires (R16). -/
  | releaseTimerExpiry (s : StationId)
  /-- The head interval timer of station `s` expires (R39). -/
  | headIntervalExpiry (s : StationId)
  /-- The reply timer of the order of station `s` expires (R87). -/
  | replyTimerExpiry (s : StationId)
  /-- The remember timer of the record of `serial` expires (R57). -/
  | rememberTimerExpiry (serial : Serial)
  /-- The link silence timer expires (R173). -/
  | silenceTimerExpiry
  /-- The untrust timer expires (R124). -/
  | untrustTimerExpiry
  /-- A tenth of a second of elapsed time passes (R122). -/
  | timeOfDayTick
  deriving DecidableEq, Repr

end Sys2Proof
end

