-- ==== Sys2Proof/Decode.lean ====
section
/-! DEFINITION. The command a word spells. The opcode table gives no row any bits (every "fields" is empty and no row
has "fixed"), so no word spells a command. The byte layouts of frames, entries and records (R190) are decoded in
Machine/Operands.lean. -/

namespace Sys2Proof

/-- The command that the `nbits`-bit word `w` spells: none, since no row of the table gives bits (log 6). -/
def decodeTableWord (_nbits _w : Nat) : Option Instr := none

end Sys2Proof
end

