-- ==== Sys2Proof/Machine/State.lean ====
section
/-! DEFINITION. The state of the BF4850, block by block as spec/00 lists them, the reasons a step can stop, and the
state right after power-up. -/

namespace Sys2Proof.Machine

/-! ## Reasons to stop -/

/-- Faults. The spec names no condition that stops the part, so there is none: no constructor, hence no step faults
(log 2). -/
inductive Fault where
  deriving DecidableEq, Repr

/-- Refusals. -/
inductive Refusal where
  /-- Raised by `exec`'s arm of a command that has no meaning yet, and by nothing else. Safe. No arm raises it now. -/
  | notModelled (mnemonic : String)
  deriving DecidableEq, Repr

/-! ## One value per station -/

/-- A value for each of the 48 stations, in order of station number. -/
structure PerStation (α : Type) where
  values : List α
  size : values.length = 48
  deriving DecidableEq, Repr

/-- The same value for every station. -/
def PerStation.fill {α : Type} (a : α) : PerStation α := ⟨List.replicate 48 a, by simp⟩

/-- A slot-addressed table (hot list, batch table, prefix, band and calendar tables): its non-empty slots, with
slots strictly rising. A slot that is not listed is empty. -/
abbrev SlotTable (α : Type) := List (Nat × α)

/-! ## Names of the manual -/

/-- The two tariff banks (R99). -/
inductive BankId where
  | a | b
  deriving DecidableEq, Repr

/-- R99, R100. -/
inductive BankState where
  | empty | standby | active | draining
  deriving DecidableEq, Repr

/-- R121. -/
inductive DayType where
  | weekday | weekend | holiday
  deriving DecidableEq, Repr

/-- Station states (1.2). -/
inductive StationState where
  | idle | ready | setup | talk | clearing | outOfService
  deriving DecidableEq, Repr

/-- Why a station is or goes out of service (R25). -/
inductive OutReason where
  | stationFault | takenOut
  deriving DecidableEq, Repr

/-- End causes (1.12). EXCHANGE_CLEAR carries the exchange's cause byte (R17). -/
inductive EndCause where
  | hookOn | cardOut | exchangeClear (x : Byte) | noAnswer | noUnits | exhausted | burnLate | burnShort
  | burnFailed | barredCard | stationFault | takenOut | linkDown | restart
  deriving DecidableEq, Repr

/-- Causes of the final mark (R42). -/
inductive FinalCause where
  | exhausted | burnShort | burnFailed
  deriving DecidableEq, Repr

/-- Card refusal reasons (R64); BARRED carries its reason code (R160). -/
inductive CardRefusal where
  | stationBusy | outOfService | closed | unknownBatch | withdrawn | overFace | empty | barred (code : Byte)
  | inUse | unitsRose
  deriving DecidableEq, Repr

/-- Call refusal reasons (R9). -/
inductive CallRefusal where
  | outOfService | busy | closed | linkDown | noTariff | barredNumber | noCard | noUnits | recordsFull
  | linkCongested
  deriving DecidableEq, Repr

/-- Reply statuses (11.4). -/
inductive Status where
  | done | range | bankBusy | invalid | duplicate | order | unknown | length | notFound | empty
  deriving DecidableEq, Repr

/-- Modes of STATION_MODE and SET_STATION. -/
inductive Mode where
  | out | into
  deriving DecidableEq, Repr

/-- The service state (R183). -/
inductive Service where
  | closed | opened
  deriving DecidableEq, Repr

/-- The link state (R171). -/
inductive LinkState where
  | down | up
  deriving DecidableEq, Repr

/-- Purpose of a burn order (R78). -/
inductive Purpose where
  | opening | replenish
  deriving DecidableEq, Repr

/-! ## Time Base (TB) -/

/-- A date; the zero date is 0, 0, 0 (R121). -/
structure Date where
  year : Nat
  month : Nat
  day : Nat
  deriving DecidableEq, Repr

/-- Time of day with tenths (R121). -/
structure TimeOfDay where
  hour : Nat
  minute : Nat
  second : Nat
  tenth : Nat
  deriving DecidableEq, Repr

/-- The TB's fields (R121); a timer is the tenths it has left, absent while it does not run. -/
structure TimeBase where
  date : Date
  dayType : DayType
  time : TimeOfDay
  trusted : Bool
  untrust : Option Nat
  deriving DecidableEq, Repr

/-- One answer of the TB (R125), as the open time of a call holds it (R130). -/
structure ClockReading where
  date : Date
  dayType : DayType
  time : TimeOfDay
  trusted : Bool
  deriving DecidableEq, Repr

/-! ## Call Controller (CC) -/

/-- FREE, or CHARGED with a band (R3, R108). -/
inductive CallKind where
  | free
  | charged (band : Band)
  deriving DecidableEq, Repr

/-- Status of an interval entry (R30). -/
inductive IntervalStatus where
  | priced | paid
  deriving DecidableEq, Repr

/-- An interval entry (R30). -/
structure Interval where
  length : Nat
  units : Nat
  status : IntervalStatus
  deriving DecidableEq, Repr

/-- The call context (R3). -/
structure CallContext where
  dialled : List Digit
  kind : CallKind
  card : Option (Serial × Nat)
  bank : BankId
  openTime : ClockReading
  answered : Bool
  answerMark : Option Nat
  atAnswer : Option (Band × Period)
  intervalsBegun : Nat
  unitsBurned : Nat
  unresolved : Option Nat
  finalMark : Option FinalCause
  talkDuration : Option Nat
  endCause : Option EndCause
  released : Bool
  orderResolved : Option Bool
  deriving DecidableEq, Repr

/-- The station record (R2). The interval list's absence is the empty list; a timer is the tenths it has left. -/
structure StationRecord where
  state : StationState
  card : Option Serial
  cls : Nat
  context : Option CallContext
  intervals : List Interval
  thenOut : Bool
  outReason : Option OutReason
  answerTimer : Option Nat
  releaseTimer : Option Nat
  headTimer : Option Nat
  deriving DecidableEq, Repr

/-! ## Card Table (CT) -/

/-- ACTIVE at a station, or REMEMBERED with the remember timer's time left (R53). -/
inductive CardState where
  | active (station : StationId)
  | remembered (left : Nat)
  deriving DecidableEq, Repr

/-- A card record (R53). -/
structure CardRecord where
  serial : Serial
  batch : Nat
  state : CardState
  confirmed : Nat
  uncertainLow : Option Nat
  strikes : Nat
  deriving DecidableEq, Repr

/-- Standing of a batch (R61). -/
inductive Standing where
  | current | withdrawn
  deriving DecidableEq, Repr

/-- A batch entry (R61). -/
structure BatchEntry where
  batch : Nat
  face : Nat
  standing : Standing
  deriving DecidableEq, Repr

/-- A hot-list range (R62). -/
structure HotRange where
  first : Serial
  last : Serial
  code : Byte
  deriving DecidableEq, Repr

/-- The CT: card records (the REMEMBERED ones stand in order of removal, oldest first, log 20), batch table, hot list
and auto-bar list (R53, R54, R61 to R63). -/
structure CardTable where
  cards : List CardRecord
  batches : SlotTable BatchEntry
  hot : SlotTable HotRange
  autobar : List Serial
  deriving DecidableEq, Repr

/-! ## Debit Engine (DE) -/

/-- SENDING, or AWAITING with the reply timer's time left (R78). -/
inductive OrderState where
  | sending
  | awaiting (left : Nat)
  deriving DecidableEq, Repr

/-- A burn order (R78); its station is the place where the DE keeps it. -/
structure BurnOrder where
  tag : Nat
  serial : Serial
  units : Nat
  purpose : Purpose
  state : OrderState
  settled : Bool
  deriving DecidableEq, Repr

/-- The DE: orders, tag counter, failure counts and retired-tag list (R78, R79, R85, R92). -/
structure DebitEngine where
  orders : PerStation (Option BurnOrder)
  tagCounter : Nat
  failures : PerStation Nat
  retired : List (StationId × Nat)
  deriving DecidableEq, Repr

/-! ## Tariff Store (TS) -/

/-- Action of a prefix entry (R106). -/
inductive Action where
  | band (b : Band)
  | free
  | barred
  deriving DecidableEq, Repr

/-- A prefix entry (R106). -/
structure PrefixEntry where
  digits : List Digit
  action : Action
  deriving DecidableEq, Repr

/-- A valid band entry (R109). -/
structure BandEntry where
  length : Nat
  units : Nat
  setup : Nat
  deriving DecidableEq, Repr

/-- A non-empty calendar slot (R111). -/
structure CalendarSlot where
  minute : Nat
  period : Period
  deriving DecidableEq, Repr

/-- A tariff bank (R99). The band table is kept by offset, band × 4 + period (R109). -/
structure Bank where
  state : BankState
  pins : Nat
  prefixes : SlotTable PrefixEntry
  bands : SlotTable BandEntry
  calendar : SlotTable CalendarSlot
  deriving DecidableEq, Repr

/-- The TS: two banks (R99). -/
structure TariffStore where
  a : Bank
  b : Bank
  deriving DecidableEq, Repr

/-! ## Record Queue (RQ) -/

/-- A call record (R132). -/
structure CallRecord where
  number : Nat
  station : StationId
  card : Option (Serial × Nat)
  dialled : List Digit
  charged : Bool
  bank : BankId
  atAnswer : Option (Band × Period)
  openTime : ClockReading
  answered : Bool
  talkDuration : Nat
  intervalsBegun : Nat
  unitsBurned : Nat
  unresolved : Option Nat
  endCause : EndCause
  deriving DecidableEq, Repr

/-- The store fed from VBAK (R141, R142). The check value's computation is not given: `checkAgrees` says whether it
agrees with the records and the number (log 11). -/
structure RetainedStore where
  records : List CallRecord
  nextNumber : Nat
  checkAgrees : Bool
  vbakHeld : Bool
  deriving DecidableEq, Repr

/-- The RQ (R134, R135, R141, R142). -/
structure RecordQueue where
  records : List CallRecord
  nextNumber : Nat
  reservations : Nat
  retained : Bool
  store : RetainedStore
  deriving DecidableEq, Repr

/-! ## Management Unit (MU) -/

/-- The page selector: a table, a bank where the table has banks, and a page (R179). -/
inductive Selector where
  | hot (page : Fin 32)
  | batch
  | prefixes (bank : BankId) (page : Fin 8)
  | bands (bank : BankId)
  | calendar (bank : BankId)
  | autobar
  deriving DecidableEq, Repr

/-- The MU (R179, R183). -/
structure Management where
  selector : Selector
  pointer : Nat
  service : Service
  deriving DecidableEq, Repr

/-- One entry as a READ_ENTRIES returns it (R182); `none` is an empty slot or an entry that is not valid. -/
inductive PageEntry where
  | hot (e : Option HotRange)
  | batch (e : Option BatchEntry)
  | prefixes (e : Option PrefixEntry)
  | bands (e : Option BandEntry)
  | calendar (e : Option CalendarSlot)
  | autobar (e : Option Serial)
  deriving DecidableEq, Repr

/-- The fields READ_STATION returns (R185). -/
structure StationView where
  station : StationId
  state : StationState
  cls : Nat
  card : Option Serial
  thenOut : Bool
  outReason : Option OutReason
  failures : Nat
  order : Option BurnOrder
  deriving DecidableEq, Repr

/-- The fields READ_STATUS returns (R186). -/
structure StatusView where
  service : Service
  stateA : BankState
  pinsA : Nat
  stateB : BankState
  pinsB : Nat
  link : LinkState
  trusted : Bool
  stored : Nat
  reservations : Nat
  retained : Bool
  autobarCount : Nat
  deriving DecidableEq, Repr

/-- The data of a MGMT_REPLY after its status (11.3, 11.5). -/
inductive ReplyBody where
  | nothing
  | written (count : Nat)
  | entries (read : List PageEntry)
  | station (v : StationView)
  | status (v : StatusView)
  | record (r : CallRecord)
  | released (removed left : Nat)
  deriving DecidableEq, Repr

/-! ## Row Line Controller (RLC) -/

/-- The frames a station sends (R159). -/
inductive RowInMsg where
  | cardIn (serial : Serial) (batch units : Nat)
  | cardOut
  | number (digits : List Digit)
  | hookOn
  | burnReport (tag burned unitsNow : Nat)
  deriving DecidableEq, Repr

/-- An entry of the row inbound queue (R151). -/
structure RowInFrame where
  origin : StationId
  msg : RowInMsg
  deriving DecidableEq, Repr

/-- The frames the part sends on the row line (R160). -/
inductive RowMsg where
  | cardOk (units : Nat)
  | cardRefused (reason : CardRefusal)
  | callRefused (reason : CallRefusal)
  | connected
  | burn (tag : Nat) (serial : Serial) (units : Nat)
  | unitsLow (cause : FinalCause)
  | callEnded (cause : EndCause)
  | stationMode (mode : Mode)
  | service (v : Service)
  deriving DecidableEq, Repr

/-- Destination of a frame of the part: a station, or node 63 (R146). -/
inductive RowDest where
  | station (s : StationId)
  | broadcast
  deriving DecidableEq, Repr

/-- The blocks that queue row frames (R154). -/
inductive Producer where
  | cc | ct | de | mu
  deriving DecidableEq, Repr

/-- An entry of the row outbound queue (R154). -/
structure RowOutFrame where
  dest : RowDest
  msg : RowMsg
  producer : Producer
  deriving DecidableEq, Repr

/-- The state of the sending side (R155). -/
inductive SendState where
  | empty | waiting | sending | retry
  deriving DecidableEq, Repr

/-- The three answer symbols (R149). -/
inductive RowAnswer where
  | taken | busy | refused
  deriving DecidableEq, Repr

/-- The RLC (R151, R154, R155), with what it last drove on the line: the byte it sent in the slot of the last frame heard
(none for silence), and the bytes of the last transmission started (log 17). -/
structure RowLine where
  inbound : List RowInFrame
  outbound : List RowOutFrame
  sending : SendState
  attempts : Nat
  answer : Option Byte
  line : List Byte
  deriving DecidableEq, Repr

/-! ## Exchange Link Controller (XLC) -/

/-- The data of a CLOCK frame as received (11.2); the TB judges it (R123). -/
structure ClockFrame where
  year : Byte
  month : Byte
  day : Byte
  dayType : Byte
  hour : Byte
  minute : Byte
  second : Byte
  deriving DecidableEq, Repr

/-- The frames the exchange sends (R166). -/
inductive LinkInMsg where
  | callAnswered (s : StationId)
  | callClear (s : StationId) (x : Byte)
  | callReleased (s : StationId)
  | clock (c : ClockFrame)
  | mgmtRequest (name ref : Byte) (data : List Byte)
  deriving DecidableEq, Repr

/-- The cause of a CALL_CLEAR of the part: an end cause, or NO_CALL (R168). -/
inductive ClearCause where
  | cause (c : EndCause)
  | noCall
  deriving DecidableEq, Repr

/-- The frames the part sends on the link (R168). -/
inductive LinkMsg where
  | callOpen (s : StationId) (digits : List Digit)
  | callClear (s : StationId) (c : ClearCause)
  | callReleased (s : StationId)
  | mgmtReply (name ref : Byte) (status : Status) (body : ReplyBody)
  deriving DecidableEq, Repr

/-- The XLC (R165, R169, R171). The head of a non-empty outbound queue is in transmission; `detached` is a frame still
in transmission whose queue entry was removed (R173, R175, log 14). `line` is the last frame sent to its end (log 17). -/
structure ExchangeLink where
  inbound : List LinkInMsg
  outbound : List LinkMsg
  detached : Option LinkMsg
  link : LinkState
  silence : Option Nat
  line : List Byte
  deriving DecidableEq, Repr

/-! ## The whole part -/

/-- Main supply, RESET and ATTN (00, 11.7). VBAK's history is kept with the retained store. -/
structure Pins where
  supply : Bool
  reset : Bool
  attn : Bool
  deriving DecidableEq, Repr

/-- The state of the BF4850: its pins, the elapsed time in tenths of a second (log 3), the nine blocks, the counter of
free values the model has drawn (log 10), and the commands that are waiting, oldest first. -/
structure State where
  pins : Pins
  elapsed : Nat
  rlc : RowLine
  xlc : ExchangeLink
  cc : PerStation StationRecord
  ct : CardTable
  de : DebitEngine
  ts : TariffStore
  tb : TimeBase
  rq : RecordQueue
  mu : Management
  free : Nat
  pending : List Instr
  deriving DecidableEq, Repr

/-! ## Power-up values -/

/-- R5. -/
def StationRecord.reset : StationRecord :=
  { state := .idle, card := none, cls := 1, context := none, intervals := [], thenOut := false, outReason := none,
    answerTimer := none, releaseTimer := none, headTimer := none }

/-- R99: EMPTY, no pin, every slot empty. -/
def Bank.reset : Bank := { state := .empty, pins := 0, prefixes := [], bands := [], calendar := [] }

/-- R134, R135, R142: the RQ after a power-up without retention. -/
def RecordQueue.reset : RecordQueue :=
  { records := [], nextNumber := 1, reservations := 0, retained := false,
    store := { records := [], nextNumber := 1, checkAgrees := true, vbakHeld := true } }

/-- The part right after a power-up that found nothing retained (log 13): R5, R54, R61 to R63, R78, R79, R85, R92,
R99, R121, R134, R135, R142, R145, R151, R154, R155, R165, R170, R171, R179, R183. -/
def State.reset : State :=
  { pins := { supply := true, reset := false, attn := true }
    elapsed := 0
    rlc := { inbound := [], outbound := [], sending := .empty, attempts := 0, answer := none, line := [] }
    xlc := { inbound := [], outbound := [], detached := none, link := .down, silence := none, line := [] }
    cc := PerStation.fill StationRecord.reset
    ct := { cards := [], batches := [], hot := [], autobar := [] }
    de := { orders := PerStation.fill none, tagCounter := 1, failures := PerStation.fill 0, retired := [] }
    ts := { a := Bank.reset, b := Bank.reset }
    tb := { date := { year := 0, month := 0, day := 0 }, dayType := .weekday,
            time := { hour := 0, minute := 0, second := 0, tenth := 0 }, trusted := false, untrust := none }
    rq := RecordQueue.reset
    mu := { selector := .hot 0, pointer := 0, service := .closed }
    free := 0
    pending := [] }

end Sys2Proof.Machine
end

