-- ==== Sys2Proof/Machine/Flags.lean ====
section
/-! DEFINITION. ATTN (R144, R145) and whether the part runs (R161, R175). -/

namespace Sys2Proof.Machine

/-- The part acts on events while the main supply is present and RESET is not asserted (R161, R175, log 7). -/
def State.running (s : State) : Bool := s.pins.supply && !s.pins.reset

/-- A station holds ATTN while it is OUT_OF_SERVICE with reason STATION_FAULT (R144). -/
def StationRecord.holdsAttn (r : StationRecord) : Bool :=
  r.state == .outOfService && r.outReason == some .stationFault

/-- At least one of the four conditions of R144 holds. -/
def State.attnHolds (s : State) : Bool :=
  decide (384 ≤ s.rq.records.length) || s.xlc.link == .down || !s.tb.trusted || s.cc.values.any StationRecord.holdsAttn

/-- The RQ evaluates the conditions within the event that changes them (R144): a level, not a latch. -/
def State.refreshAttn (s : State) : State := { s with pins := { s.pins with attn := s.attnHolds } }

end Sys2Proof.Machine
end

