-- ==== Sys2Proof/Config.lean ====
section
/-! DEFINITION. The free values: constants with no body, so that no proof can see what they are. -/

namespace Sys2Proof

/-- FREE VALUE (log 10). Whether ATTN is seen driven while the main supply is absent: the spec does not say.
Applied to the model's counter of free values. -/
opaque Config.attnUnpowered : Nat → Bool

/-- FREE VALUE (log 18). What a field of `width` bytes carries for a number that does not fit it: the spec states
no result there. Its low `width` bytes are sent. -/
opaque Config.fieldOverflow (width value : Nat) : Nat

end Sys2Proof
end

