-- ==== Sys2Proof/Machine/Operands.lean ====
section
/-! DEFINITION. Every byte layout seen on either port (R190, 11.2 to 11.5), read and written, and the two check
computations (R191). -/

namespace Sys2Proof.Machine

/-! ## Numbers, digits, codes -/

/-- Station number 1 to 48 of a station. -/
def stationNumber (s : StationId) : Nat := s.val + 1

/-- The station a node or station byte names, 1 to 48. -/
def stationOf (b : Byte) : Option StationId :=
  if h : 1 ≤ b.toNat ∧ b.toNat ≤ 48 then some ⟨b.toNat - 1, by omega⟩ else none

/-- The low `k` bytes of `v`, most significant first. -/
def lowBytes : Nat → Nat → List Byte
  | 0, _ => []
  | k + 1, v => BitVec.ofNat 8 (v / 256 ^ k) :: lowBytes k v

/-- A number in a field of `k` bytes, most significant byte first (R190). A number that does not fit gives a free
value (log 18). -/
def wireNat (k v : Nat) : List Byte := lowBytes k (if v < 256 ^ k then v else Config.fieldOverflow k v)

/-- The number that bytes spell, most significant byte first (R190). -/
def readNat (bs : List Byte) : Nat := bs.foldl (fun n b => n * 256 + b.toNat) 0

/-- One byte of a coded field. -/
def code (n : Nat) : Byte := BitVec.ofNat 8 n

/-- `true` is 01h, `false` is 00h. -/
def flagByte (b : Bool) : Byte := if b then 1 else 0

/-- Flag bits of one byte, bit 0 first (11.5). -/
def packBits : List Bool → Nat
  | [] => 0
  | b :: bs => (if b then 1 else 0) + 2 * packBits bs

/-- The two halves of a byte, high four bits first (R190). -/
def nibbles (b : Byte) : List Nat := [b.toNat / 16, b.toNat % 16]

/-- Packed digits: two to a byte, the first in the high four bits, Fh filling an odd count (R190). -/
def packDigits : List Digit → List Byte
  | [] => []
  | [d] => [code (d.val * 16 + 15)]
  | d :: e :: ds => code (d.val * 16 + e.val) :: packDigits ds

/-- Digit positions 0 to 9; Ah to Fh is no digit (R190). -/
def toDigits : List Nat → Option (List Digit)
  | [] => some []
  | n :: ns =>
    if h : n < 10 then
      match toDigits ns with
      | some ds => some (⟨n, h⟩ :: ds)
      | none => none
    else none

/-- `count` digits from packed bytes, every position beyond them holding Fh (R190; FFh in an unused byte, R106). -/
def unpackDigits (count : Nat) (packed : List Byte) : Option (List Digit) :=
  let ns := packed.flatMap nibbles
  if count ≤ ns.length && (ns.drop count).all (· == 15) then toDigits (ns.take count) else none

/-- A digit string: a count byte, then the packed digits (R190). -/
def digitString (ds : List Digit) : List Byte := code ds.length :: packDigits ds

/-- A digit string filling its field: `room` packed bytes, unused ones FFh (11.3, 11.5). -/
def digitField (room : Nat) (ds : List Digit) : List Byte :=
  code ds.length :: (packDigits ds ++ List.replicate (room - (packDigits ds).length) 0xFF)

/-- Codes of 11.4. -/
def EndCause.code : EndCause → Byte
  | .hookOn => 0x01
  | .cardOut => 0x02
  | .exchangeClear _ => 0x03
  | .noAnswer => 0x04
  | .noUnits => 0x05
  | .exhausted => 0x06
  | .burnLate => 0x07
  | .burnShort => 0x08
  | .burnFailed => 0x09
  | .barredCard => 0x0A
  | .stationFault => 0x0B
  | .takenOut => 0x0C
  | .linkDown => 0x0D
  | .restart => 0x0E

/-- The exchange's cause byte with EXCHANGE_CLEAR, 0 otherwise (11.5 byte 40). -/
def EndCause.exchangeByte : EndCause → Byte
  | .exchangeClear x => x
  | _ => 0

/-- The end cause a final mark becomes (R41). -/
def FinalCause.toEnd : FinalCause → EndCause
  | .exhausted => .exhausted
  | .burnShort => .burnShort
  | .burnFailed => .burnFailed

/-- The end cause of taking a station with a call out of service (R25). -/
def OutReason.toEnd : OutReason → EndCause
  | .stationFault => .stationFault
  | .takenOut => .takenOut

def ClearCause.code : ClearCause → Byte
  | .cause c => c.code
  | .noCall => 0xFF

def CardRefusal.code : CardRefusal → Byte
  | .stationBusy => 0x01
  | .outOfService => 0x02
  | .closed => 0x03
  | .unknownBatch => 0x04
  | .withdrawn => 0x05
  | .overFace => 0x06
  | .empty => 0x07
  | .barred _ => 0x08
  | .inUse => 0x09
  | .unitsRose => 0x0A

def CallRefusal.code : CallRefusal → Byte
  | .outOfService => 0x01
  | .busy => 0x02
  | .closed => 0x03
  | .linkDown => 0x04
  | .noTariff => 0x05
  | .barredNumber => 0x06
  | .noCard => 0x07
  | .noUnits => 0x08
  | .recordsFull => 0x09
  | .linkCongested => 0x0A

def Status.code : Status → Byte
  | .done => 0x00
  | .range => 0x01
  | .bankBusy => 0x02
  | .invalid => 0x03
  | .duplicate => 0x04
  | .order => 0x05
  | .unknown => 0x06
  | .length => 0x07
  | .notFound => 0x08
  | .empty => 0x09

def StationState.code : StationState → Byte
  | .idle => 0
  | .ready => 1
  | .setup => 2
  | .talk => 3
  | .clearing => 4
  | .outOfService => 5

def BankState.code : BankState → Byte
  | .empty => 0
  | .standby => 1
  | .active => 2
  | .draining => 3

def DayType.code : DayType → Nat
  | .weekday => 0
  | .weekend => 1
  | .holiday => 2

/-- The day type a code names; any other code is out of range (R190). -/
def dayTypeOf : Nat → Option DayType
  | 0 => some .weekday
  | 1 => some .weekend
  | 2 => some .holiday
  | _ => none

def Mode.code : Mode → Byte
  | .out => 0
  | .into => 1

def modeOf : Nat → Option Mode
  | 0 => some .out
  | 1 => some .into
  | _ => none

def Service.code : Service → Byte
  | .closed => 0
  | .opened => 1

def serviceOf : Nat → Option Service
  | 0 => some .closed
  | 1 => some .opened
  | _ => none

def LinkState.code : LinkState → Byte
  | .down => 0
  | .up => 1

def Purpose.code : Purpose → Byte
  | .opening => 0
  | .replenish => 1

def OrderState.code : OrderState → Byte
  | .sending => 0
  | .awaiting _ => 1

/-- A or B as a request names it (11.4: none 00h, A 01h, B 02h). -/
def bankOf : Nat → Option BankId
  | 1 => some .a
  | 2 => some .b
  | _ => none

/-! ## Check computations (R191) -/

/-- One message bit: the register shifts left, and takes the polynomial when the bit shifted out differs from it. -/
def crcBit {w : Nat} (poly reg : BitVec w) (bit : Bool) : BitVec w :=
  if reg.msb != bit then (reg <<< 1) ^^^ poly else reg <<< 1

/-- The bits of a byte, most significant first. -/
def bitsOf (b : Byte) : List Bool := [7, 6, 5, 4, 3, 2, 1, 0].map b.getLsbD

/-- The register after the last covered byte. -/
def crc {w : Nat} (poly init : BitVec w) (bytes : List Byte) : BitVec w :=
  (bytes.flatMap bitsOf).foldl (crcBit poly) init

/-- The row check byte: x⁸ + x² + x + 1 from 00h. -/
def rowCheck (bytes : List Byte) : BitVec 8 := crc 0x07#8 0x00#8 bytes

/-- The link check value: x¹⁶ + x¹² + x⁵ + 1 from FFFFh. -/
def linkCheck (bytes : List Byte) : BitVec 16 := crc 0x1021#16 0xFFFF#16 bytes

/-! ## Row frames -/

/-- What a station's frame says, by kind and data: `none` when the kind is not one of the five (R150 step 5) or the
length or the data break the kind's limits (R150 step 6, R159). -/
def rowMsgOf (kind : Byte) (data : List Byte) : Option RowInMsg :=
  match kind.toNat, data with
  | 0x01, [s0, s1, s2, s3, b0, b1, u0, u1] =>
    some (.cardIn (s0 ++ s1 ++ s2 ++ s3) (readNat [b0, b1]) (readNat [u0, u1]))
  | 0x02, [] => some .cardOut
  | 0x03, count :: packed =>
    if 1 ≤ count.toNat ∧ count.toNat ≤ 16 ∧ packed.length = (count.toNat + 1) / 2 then
      (unpackDigits count.toNat packed).map .number
    else none
  | 0x04, [] => some .hookOn
  | 0x05, [tag, b0, b1, n0, n1] => some (.burnReport tag.toNat (readNat [b0, b1]) (readNat [n0, n1]))
  | _, _ => none

/-- What the RLC does with the bytes of a frame before it looks at its inbound queue (R150 steps 1 to 6). -/
inductive RowVerdict where
  /-- Steps 1 to 3: broken, check does not agree, or not for the part. -/
  | silent
  /-- Steps 4 to 6. -/
  | refused
  | accepted (f : RowInFrame)
  deriving DecidableEq, Repr

/-- R147, R150 steps 1 to 6, in order. A frame is broken when its bytes end before its check byte or its length
field gives more than 20 (bytes beyond its end, which `Instr.wellFormed` excludes, are treated as broken too, log 23). -/
def judgeRow (bytes : List Byte) : RowVerdict :=
  match bytes with
  | origin :: dest :: kind :: len :: rest =>
    if ¬(len.toNat ≤ 20 ∧ rest.length = len.toNat + 1) then .silent
    else if rowCheck (bytes.take (4 + len.toNat)) ≠ rest.getD len.toNat 0 then .silent
    else if dest ≠ 0 then .silent
    else
      match stationOf origin, rowMsgOf kind (rest.take len.toNat) with
      | some s, some m => .accepted { origin := s, msg := m }
      | _, _ => .refused
  | _ => .silent

/-- Kind codes of the part's row frames (11.2). -/
def RowMsg.kind : RowMsg → Byte
  | .cardOk _ => 0x11
  | .cardRefused _ => 0x12
  | .callRefused _ => 0x13
  | .connected => 0x14
  | .burn _ _ _ => 0x15
  | .unitsLow _ => 0x16
  | .callEnded _ => 0x17
  | .stationMode _ => 0x18
  | .service _ => 0x19

/-- Data of the part's row frames (11.2, R160). -/
def RowMsg.data : RowMsg → List Byte
  | .cardOk units => wireNat 2 units
  | .cardRefused (.barred c) => [(CardRefusal.barred c).code, c]
  | .cardRefused r => [r.code]
  | .callRefused r => [r.code]
  | .connected => []
  | .burn tag serial units => wireNat 1 tag ++ wireNat 4 serial.toNat ++ wireNat 2 units
  | .unitsLow c => [c.toEnd.code]
  | .callEnded c => [c.code]
  | .stationMode m => [m.code]
  | .service v => [v.code]

/-- The node a destination names: 63 is broadcast (R146). -/
def RowDest.node : RowDest → Byte
  | .station s => code (stationNumber s)
  | .broadcast => 0x3F

/-- A row frame of the part as it stands on the line (R147, 11.2). -/
def rowBytes (f : RowOutFrame) : List Byte :=
  let covered := [0x00, f.dest.node, f.msg.kind, code f.msg.data.length] ++ f.msg.data
  covered ++ [rowCheck covered]

/-- The byte of an answer in the acknowledge slot (11.2). -/
def RowAnswer.symbol : RowAnswer → Byte
  | .taken => 0xA5
  | .busy => 0x5A
  | .refused => 0xC3

/-- What a sender hears in the slot (R149, 11.2): A5h TAKEN, 5Ah BUSY, C3h REFUSED, anything else silence. -/
def slotAnswer : Option Byte → Option RowAnswer
  | some b =>
    if b = RowAnswer.taken.symbol then some .taken
    else if b = RowAnswer.busy.symbol then some .busy
    else if b = RowAnswer.refused.symbol then some .refused
    else none
  | none => none

/-! ## Link frames -/

/-- What an exchange frame says, by kind, station field and data: `none` when R164 discards it at step 4 (kind),
5 (station field) or 6 (length). -/
def linkMsgOf (kind station : Byte) (data : List Byte) : Option LinkInMsg :=
  match kind.toNat, data with
  | 0x24, [] => (stationOf station).map .callAnswered
  | 0x22, [x] => (stationOf station).map (.callClear · x)
  | 0x23, [] => (stationOf station).map .callReleased
  | 0x25, [y, mo, d, t, h, mi, s] => if station = 0 then some (.clock ⟨y, mo, d, t, h, mi, s⟩) else none
  | 0x26, name :: ref :: rest => if station = 0 then some (.mgmtRequest name ref rest) else none
  | _, _ => none

/-- What the XLC makes of the bytes of a frame (R164 steps 1 to 6). -/
inductive LinkVerdict where
  /-- Steps 1 and 2: broken, or the check value does not agree. -/
  | notValid
  /-- Valid, and discarded at steps 4 to 6. -/
  | discarded
  | accepted (m : LinkInMsg)
  deriving DecidableEq, Repr

/-- R163, R164 steps 1 to 6, in order. Bytes beyond the frame's end make it broken (log 23). -/
def judgeLink (bytes : List Byte) : LinkVerdict :=
  match bytes with
  | kind :: station :: len :: rest =>
    if ¬(len.toNat ≤ 48 ∧ rest.length = len.toNat + 2) then .notValid
    else if linkCheck (bytes.take (3 + len.toNat)) ≠ rest.getD len.toNat 0 ++ rest.getD (len.toNat + 1) 0 then
      .notValid
    else
      match linkMsgOf kind station (rest.take len.toNat) with
      | some m => .accepted m
      | none => .discarded
  | _ => .notValid

/-! ## Table entries (11.3) -/

/-- How a write's entry reads: out of range, empty, or content. -/
inductive EntryRead (α : Type) where
  | outOfRange
  | empty
  | content (e : α)
  deriving DecidableEq, Repr

/-- The use byte (R190): 00h empty, 01h content, any other out of range. -/
def readUse {α : Type} (bytes : List Byte) (body : List Byte → Option α) : EntryRead α :=
  match bytes with
  | [] => .outOfRange
  | use :: rest =>
    if use = 0 then .empty
    else if use = 1 then
      match body rest with
      | some e => .content e
      | none => .outOfRange
    else .outOfRange

/-- HOT (R62): the reason code is 1 to 255. That the first serial is not above the last is judged after. -/
def readHot (bytes : List Byte) : EntryRead HotRange :=
  readUse bytes fun
    | [a, b, c, d, e, f, g, h, k] =>
      if k = 0 then none else some { first := a ++ b ++ c ++ d, last := e ++ f ++ g ++ h, code := k }
    | _ => none

/-- BATCH (R61). -/
def readBatch (bytes : List Byte) : EntryRead BatchEntry :=
  readUse bytes fun
    | [a, b, c, d, st] =>
      let batch := readNat [a, b]
      let face := readNat [c, d]
      if 1 ≤ batch ∧ 1 ≤ face ∧ face ≤ 9999 then
        match st.toNat with
        | 0 => some { batch := batch, face := face, standing := .current }
        | 1 => some { batch := batch, face := face, standing := .withdrawn }
        | _ => none
      else none
    | _ => none

/-- Action and band bytes of a prefix entry (R106). -/
def readAction (action band : Byte) : Option Action :=
  match action.toNat with
  | 1 => if h : band.toNat < 16 then some (.band ⟨band.toNat, h⟩) else none
  | 2 => if band = 0 then some .free else none
  | 3 => if band = 0 then some .barred else none
  | _ => none

/-- PREFIX (R106). -/
def readPrefix (bytes : List Byte) : EntryRead PrefixEntry :=
  readUse bytes fun
    | [count, p0, p1, p2, p3, p4, action, band] =>
      if 1 ≤ count.toNat ∧ count.toNat ≤ 10 then
        match unpackDigits count.toNat [p0, p1, p2, p3, p4], readAction action band with
        | some ds, some a => some { digits := ds, action := a }
        | _, _ => none
      else none
    | _ => none

/-- BAND (R109). -/
def readBand (bytes : List Byte) : EntryRead BandEntry :=
  readUse bytes fun
    | [l0, l1, u, s] =>
      let length := readNat [l0, l1]
      if 10 ≤ length ∧ length ≤ 6000 ∧ 1 ≤ u.toNat ∧ u.toNat ≤ 50 ∧ s.toNat ≤ 50 then
        some { length := length, units := u.toNat, setup := s.toNat }
      else none
    | _ => none

/-- CALENDAR (R111). -/
def readCalendar (bytes : List Byte) : EntryRead CalendarSlot :=
  readUse bytes fun
    | [m0, m1, p] =>
      if h : readNat [m0, m1] ≤ 1439 ∧ p.toNat < 4 then
        some { minute := readNat [m0, m1], period := ⟨p.toNat, h.2⟩ }
      else none
    | _ => none

/-- Action and band bytes (11.3: band 0 unless BAND). -/
def Action.bytes : Action → List Byte
  | .band b => [1, code b.val]
  | .free => [2, 0]
  | .barred => [3, 0]

/-- The entry size of a table, with its use byte (11.3). -/
def Selector.entrySize : Selector → Nat
  | .hot _ => 10
  | .batch => 6
  | .prefixes _ _ => 9
  | .bands _ => 5
  | .calendar _ => 4
  | .autobar => 5

/-- An entry with its use byte, in `size` bytes: an empty one is all 0 (R190, 11.3). -/
def entryField {α : Type} (size : Nat) (body : α → List Byte) : Option α → List Byte
  | none => List.replicate size 0
  | some e => 1 :: body e

/-- An entry as READ_ENTRIES returns it: in the form it is written in (R182). -/
def PageEntry.bytes : PageEntry → List Byte
  | .hot e => entryField 10 (fun r => wireNat 4 r.first.toNat ++ wireNat 4 r.last.toNat ++ [r.code]) e
  | .batch e =>
    entryField 6 (fun b => wireNat 2 b.batch ++ wireNat 2 b.face ++
      [match b.standing with | .current => 0 | .withdrawn => 1]) e
  | .prefixes e => entryField 9 (fun p => digitField 5 p.digits ++ p.action.bytes) e
  | .bands e => entryField 5 (fun b => wireNat 2 b.length ++ wireNat 1 b.units ++ wireNat 1 b.setup) e
  | .calendar e => entryField 4 (fun c => wireNat 2 c.minute ++ [code c.period.val]) e
  | .autobar e => entryField 5 (fun s => wireNat 4 s.toNat) e

/-! ## Record and replies (11.5) -/

/-- Serial and batch, filled with 0 when absent (R190). -/
def cardBytes : Option (Serial × Nat) → List Byte
  | some (s, b) => wireNat 4 s.toNat ++ wireNat 2 b
  | none => List.replicate 6 0

/-- The call record, 41 bytes. -/
def recordBytes (r : CallRecord) : List Byte :=
  wireNat 4 r.number ++ [code (stationNumber r.station),
    code (packBits [r.card.isSome, r.atAnswer.isSome, r.unresolved.isSome, r.charged, r.bank == .b, r.answered,
      r.openTime.trusted])] ++
  cardBytes r.card ++ digitField 8 r.dialled ++
  [match r.atAnswer with | some (b, p) => code (b.val * 16 + p.val) | none => 0] ++
  [code r.openTime.date.year, code r.openTime.date.month, code r.openTime.date.day, code r.openTime.dayType.code,
    code r.openTime.time.hour, code r.openTime.time.minute, code r.openTime.time.second] ++
  wireNat 4 r.talkDuration ++ wireNat 2 r.intervalsBegun ++ wireNat 2 r.unitsBurned ++
  wireNat 2 (r.unresolved.getD 0) ++ [r.endCause.code, r.endCause.exchangeByte]

/-- The READ_STATUS reply, 12 bytes. -/
def statusBytes (v : StatusView) : List Byte :=
  [v.service.code, v.stateA.code] ++ wireNat 1 v.pinsA ++ [v.stateB.code] ++ wireNat 1 v.pinsB ++
  [v.link.code, flagByte v.trusted] ++ wireNat 2 v.stored ++ wireNat 1 v.reservations ++
  [flagByte v.retained] ++ wireNat 1 v.autobarCount

/-- The order's bytes 9 to 17 of a READ_STATION reply, filled with 0 when there is none. -/
def orderBytes : Option BurnOrder → List Byte
  | some o => wireNat 1 o.tag ++ wireNat 4 o.serial.toNat ++ wireNat 2 o.units ++ [o.purpose.code, o.state.code]
  | none => List.replicate 9 0

/-- The READ_STATION reply, 18 bytes. -/
def stationBytes (v : StationView) : List Byte :=
  [code (stationNumber v.station), v.state.code] ++ wireNat 1 v.cls ++
  [code (packBits [v.card.isSome, v.thenOut, v.outReason.isSome, v.outReason == some .takenOut, v.order.isSome,
    (v.order.map (·.settled)).getD false])] ++
  wireNat 4 ((v.card.map (·.toNat)).getD 0) ++ wireNat 1 v.failures ++ orderBytes v.order

/-- Reply data after the status (11.3). -/
def ReplyBody.bytes : ReplyBody → List Byte
  | .nothing => []
  | .written n => wireNat 1 n
  | .entries es => wireNat 1 es.length ++ es.flatMap PageEntry.bytes
  | .station v => stationBytes v
  | .status v => statusBytes v
  | .record r => recordBytes r
  | .released removed left => wireNat 2 removed ++ wireNat 2 left

/-- Kind, station field and data of the part's link frames (11.2, R168). -/
def LinkMsg.parts : LinkMsg → Byte × Byte × List Byte
  | .callOpen s ds => (0x21, code (stationNumber s), digitString ds)
  | .callClear s c => (0x22, code (stationNumber s), [c.code])
  | .callReleased s => (0x23, code (stationNumber s), [])
  | .mgmtReply name ref st body => (0x27, 0, [name, ref, st.code] ++ body.bytes)

/-- A link frame of the part as it stands on the link (R163, 11.2): the check value's high byte first. -/
def linkBytes (m : LinkMsg) : List Byte :=
  let (kind, station, data) := m.parts
  let covered := [kind, station, code data.length] ++ data
  let check := linkCheck covered
  covered ++ [check.extractLsb' 8 8, check.extractLsb' 0 8]

end Sys2Proof.Machine
end

