-- ==== Sys2Proof/Machine/Ops.lean ====
section
/-! DEFINITION. The shared operations under every block: access by station, slot tables, timers, capacities, and the
offers of frames to the two outbound queues (R154, R169). -/

namespace Sys2Proof.Machine

/-! ## Capacities and timer lengths (tenths of a second) -/

/-- R151. -/
def rowInboundRoom : Nat := 16
/-- R154. -/
def rowOutboundRoom : Nat := 64
/-- R165. -/
def linkInboundRoom : Nat := 32
/-- R169. -/
def linkOutboundRoom : Nat := 128
/-- R54. -/
def cardTableRoom : Nat := 96
/-- R63. -/
def autobarRoom : Nat := 32
/-- R135. -/
def recordRoom : Nat := 512
/-- R155: transmissions of one frame. -/
def maxAttempts : Nat := 4
/-- R134: the last record number before 1. -/
def lastRecordNumber : Nat := 4294967295
/-- R92, R93. -/
def faultCount : Nat := 4
/-- R75. -/
def thirdStrike : Nat := 3

/-- Answer timer, 120 s (R2, R11). -/
def answerTime : Nat := 1200
/-- Release timer, 5 s (R2, R15). -/
def releaseTime : Nat := 50
/-- Reply timer, 3.0 s (R78). -/
def replyTime : Nat := 30
/-- Remember timer, 300 s (R53). -/
def rememberTime : Nat := 3000
/-- Silence timer, 30 s (R164). -/
def silenceTime : Nat := 300
/-- Untrust timer, 120 s (R121). -/
def untrustTime : Nat := 1200

/-! ## One value per station -/

/-- The value of station `i`. -/
def PerStation.get {α : Type} (v : PerStation α) (i : StationId) : α :=
  v.values[i.val]'(by have := v.size; omega)

/-- The value of station `i` replaced. -/
def PerStation.set {α : Type} (v : PerStation α) (i : StationId) (a : α) : PerStation α :=
  ⟨v.values.set i.val a, by simp [v.size]⟩

/-- Every value changed by `f`. -/
def PerStation.map {α β : Type} (f : α → β) (v : PerStation α) : PerStation β :=
  ⟨v.values.map f, by simp [v.size]⟩

/-- The stations in ascending order of station number (R23, R74, R137). -/
def stationIds : List StationId := List.finRange 48

/-! ## Slot tables -/

/-- The entry in slot `k`; `none` when the slot is empty. -/
def SlotTable.read {α : Type} (k : Nat) : SlotTable α → Option α
  | [] => none
  | (j, e) :: t => if j = k then some e else SlotTable.read k t

/-- Slot `k` written: with an entry, or empty. -/
def SlotTable.write {α : Type} (k : Nat) (o : Option α) : SlotTable α → SlotTable α
  | [] => (o.map fun e => (k, e)).toList
  | (j, e) :: t =>
    if k < j then (o.map fun e' => (k, e')).toList ++ (j, e) :: t
    else if k = j then (o.map fun e' => (k, e')).toList ++ t
    else (j, e) :: SlotTable.write k o t

/-- The canonical form (log 21): slots strictly rising, all below `size`. -/
def SlotTable.wf {α : Type} (size : Nat) (t : SlotTable α) : Bool :=
  decide ((t.map Prod.fst).Pairwise (· < ·)) && t.all fun e => decide (e.1 < size)

/-- Another non-empty slot than `k` holds an entry with property `p`: the DUPLICATE check of R61 and R104. -/
def SlotTable.otherHas {α : Type} (k : Nat) (p : Nat → α → Bool) (t : SlotTable α) : Bool :=
  t.any fun e => e.1 != k && p e.1 e.2

/-! ## Timers -/

/-- One tenth of a second passes on a timer; a timer with no time left waits for its expiry to be taken (log 3). -/
def tickTimer (t : Option Nat) : Option Nat := t.map (· - 1)

/-- A running timer that has no time left: its expiry can be taken (R1: a stopped timer does not expire). -/
def timerDue (t : Option Nat) : Bool := t == some 0

/-! ## Access to the state -/

/-- The record of station `i`. -/
def State.station (s : State) (i : StationId) : StationRecord := s.cc.get i

/-- The record of station `i` replaced. -/
def State.setStation (s : State) (i : StationId) (r : StationRecord) : State := { s with cc := s.cc.set i r }

/-- The record of station `i` changed. -/
def State.mapStation (s : State) (i : StationId) (f : StationRecord → StationRecord) : State :=
  s.setStation i (f (s.station i))

/-- The call context of station `i` changed, if there is one. -/
def State.mapContext (s : State) (i : StationId) (f : CallContext → CallContext) : State :=
  s.mapStation i fun r => { r with context := r.context.map f }

/-- The order the DE holds for station `i`. -/
def State.order (s : State) (i : StationId) : Option BurnOrder := s.de.orders.get i

/-- The order of station `i` replaced or deleted. -/
def State.setOrder (s : State) (i : StationId) (o : Option BurnOrder) : State :=
  { s with de := { s.de with orders := s.de.orders.set i o } }

/-- The card records replaced. -/
def State.withCards (s : State) (cs : List CardRecord) : State := { s with ct := { s.ct with cards := cs } }

/-- The bank of that name. -/
def TariffStore.bank (t : TariffStore) : BankId → Bank
  | .a => t.a
  | .b => t.b

/-- The bank of that name replaced. -/
def TariffStore.setBank (t : TariffStore) (x : BankId) (b : Bank) : TariffStore :=
  match x with
  | .a => { t with a := b }
  | .b => { t with b := b }

/-- The other bank of A is B and of B is A (spec/00). -/
def BankId.other : BankId → BankId
  | .a => .b
  | .b => .a

def State.bank (s : State) (x : BankId) : Bank := s.ts.bank x

def State.setBank (s : State) (x : BankId) (b : Bank) : State := { s with ts := s.ts.setBank x b }

/-! ## Offers to the outbound queues -/

/-- R154: the frame joins the tail when fewer than 64 entries stand in the queue. -/
def RowLine.hasRoom (r : RowLine) : Bool := decide (r.outbound.length < rowOutboundRoom)

/-- R154, R155: the offer of one frame. A queue that was EMPTY becomes WAITING with attempt count 0. -/
def RowLine.offer (r : RowLine) (f : RowOutFrame) : RowLine :=
  if r.hasRoom then
    { r with
      outbound := r.outbound ++ [f]
      sending := if r.sending = .empty then .waiting else r.sending
      attempts := if r.sending = .empty then 0 else r.attempts }
  else r

/-- A block offers a row frame. One that finds the queue full is lost; only a BURN frame's loss has an effect, which
its producer takes (R156, `issueOrder`). -/
def State.offerRow (s : State) (f : RowOutFrame) : State := { s with rlc := s.rlc.offer f }

/-- The CC offers a frame to station `i`. -/
def State.tellStation (s : State) (i : StationId) (m : RowMsg) : State := s.offerRow ⟨.station i, m, .cc⟩

/-- The CT offers a card frame to station `i` (R77). -/
def State.tellCard (s : State) (i : StationId) (m : RowMsg) : State := s.offerRow ⟨.station i, m, .ct⟩

/-- R169: room on the link, for a frame not to be lost. -/
def ExchangeLink.hasRoom (x : ExchangeLink) : Bool := decide (x.outbound.length < linkOutboundRoom)

/-- R169: the frame joins the tail when the link is UP and fewer than 128 frames are queued; otherwise it is lost. -/
def ExchangeLink.offer (x : ExchangeLink) (m : LinkMsg) : ExchangeLink :=
  if x.link = .up ∧ x.hasRoom then { x with outbound := x.outbound ++ [m] } else x

/-- A block offers a link frame. -/
def State.offerLink (s : State) (m : LinkMsg) : State := { s with xlc := s.xlc.offer m }

/-- R173, R175: the outbound queue is emptied, and a frame whose transmission is in progress is sent to its end. -/
def ExchangeLink.emptyOutbound (x : ExchangeLink) : ExchangeLink :=
  { x with
    outbound := []
    detached := match x.detached with
      | some f => some f
      | none => x.outbound.head? }

/-! ## Taking from the inbound queues -/

/-- R152: the head of the row inbound queue, taken off it. -/
def State.takeRow (s : State) : Option (RowInFrame × State) :=
  match s.rlc.inbound with
  | [] => none
  | f :: rest => some (f, { s with rlc := { s.rlc with inbound := rest } })

/-- R165: the head of the link inbound queue, taken off it. -/
def State.takeLink (s : State) : Option (LinkInMsg × State) :=
  match s.xlc.inbound with
  | [] => none
  | m :: rest => some (m, { s with xlc := { s.xlc with inbound := rest } })

end Sys2Proof.Machine
end

