-- ==== Sys2Proof/Machine/Cards.lean ====
section
/-! DEFINITION. The Card Table: records, memory of removed cards (R53 to R58), burn updates (R59, R60), settling and
the lower bound (R55, R90), the ordered admission checks (R64 to R70), strikes and the auto-bar list (R63, R75). -/

namespace Sys2Proof.Machine

/-! ## Card records -/

/-- The record of a serial. -/
def CardTable.find (t : CardTable) (x : Serial) : Option CardRecord := t.cards.find? fun r => r.serial == x

/-- The record of a serial changed. -/
def changeCard (x : Serial) (f : CardRecord → CardRecord) (cs : List CardRecord) : List CardRecord :=
  cs.map fun r => if r.serial = x then f r else r

/-- The records without that of a serial. -/
def dropCard (x : Serial) (cs : List CardRecord) : List CardRecord := cs.filter fun r => r.serial != x

/-- The record is REMEMBERED. -/
def CardRecord.isRemembered (r : CardRecord) : Bool :=
  match r.state with
  | .remembered _ => true
  | .active _ => false

/-- The record is ACTIVE at station `i`. -/
def CardRecord.activeAt (r : CardRecord) (i : StationId) : Bool := r.state == .active i

/-- R56: an ACTIVE record becomes REMEMBERED, joins the tail of the order of removal and starts its remember timer; a
record already REMEMBERED is not changed. -/
def rememberCard (x : Serial) (cs : List CardRecord) : List CardRecord :=
  match cs.find? fun r => r.serial == x with
  | some r => if r.isRemembered then cs else dropCard x cs ++ [{ r with state := .remembered rememberTime }]
  | none => cs

/-- R58: the oldest REMEMBERED record is deleted. -/
def evictOldest : List CardRecord → List CardRecord
  | [] => []
  | r :: rs => if r.isRemembered then rs else r :: evictOldest rs

/-- R71 steps 1 and 2: the record becomes ACTIVE at the station with the reported batch and units. A record that
exists keeps its strikes; a new one takes a place, made by eviction when the table is full (R58). -/
def activateCard (i : StationId) (x : Serial) (batch units : Nat) (cs : List CardRecord) : List CardRecord :=
  match cs.find? fun r => r.serial == x with
  | some r =>
    dropCard x cs ++ [{ r with batch := batch, state := .active i, confirmed := units, uncertainLow := none }]
  | none =>
    (if cs.length < cardTableRoom then cs else evictOldest cs) ++
      [{ serial := x, batch := batch, state := .active i, confirmed := units, uncertainLow := none, strikes := 0 }]

/-- R59: the card reported its count: the smaller of units now and confirmed less burned, at least 0. -/
def CardRecord.reported (b unitsNow : Nat) (r : CardRecord) : CardRecord :=
  { r with confirmed := min unitsNow (r.confirmed - b), uncertainLow := none }

/-- R60: no reply came to an order of `units`. -/
def CardRecord.noReply (units : Nat) (r : CardRecord) : CardRecord :=
  { r with uncertainLow := some (r.uncertainLow.getD r.confirmed - units) }

/-- R75: a strike, up to 3. -/
def CardRecord.strike (r : CardRecord) : CardRecord := { r with strikes := min thirdStrike (r.strikes + 1) }

/-! ## Orders of a card -/

/-- R55: the units of the unsettled burn order for the serial, 0 if the DE holds none. -/
def DebitEngine.unsettledUnits (d : DebitEngine) (x : Serial) : Nat :=
  match (d.orders.values.filterMap id).find? fun o => o.serial == x && !o.settled with
  | some o => o.units
  | none => 0

/-- R90: every order for the serial is settled. -/
def DebitEngine.settle (d : DebitEngine) (x : Serial) : DebitEngine :=
  { d with orders := d.orders.map fun o => o.map fun b => if b.serial = x then { b with settled := true } else b }

/-- R55: confirmed units less the units of the unsettled order; 0 for a card with no record (no run asks: log 19). -/
def State.lowerBound (s : State) (x : Serial) : Nat :=
  match s.ct.find x with
  | some r => r.confirmed - s.de.unsettledUnits x
  | none => 0

/-- The lower bound of the card a station names; 0 for none. -/
def State.cardBound (s : State) (i : StationId) : Nat :=
  match (s.station i).card with
  | some x => s.lowerBound x
  | none => 0

/-! ## The lists -/

/-- A serial lies in a range (R62). -/
def HotRange.covers (h : HotRange) (x : Serial) : Bool := decide (h.first ≤ x ∧ x ≤ h.last)

/-- R68: the reason code of the bar on a serial: that of the lowest-numbered hot-list slot whose range holds it, or 0
for the auto-bar list. -/
def CardTable.barCode (t : CardTable) (x : Serial) : Option Byte :=
  match (t.hot.map Prod.snd).find? fun h => h.covers x with
  | some h => some h.code
  | none => if t.autobar.contains x then some 0 else none

/-- R67: the batch entry of a batch number. -/
def CardTable.batchEntry (t : CardTable) (batch : Nat) : Option BatchEntry :=
  (t.batches.map Prod.snd).find? fun e => e.batch == batch

/-- R63: a serial joins the tail of the auto-bar list, the oldest being dropped from a full one. -/
def addAutobar (x : Serial) (l : List Serial) : List Serial :=
  (if l.length < autobarRoom then l else l.tail) ++ [x]

/-! ## The admission checks -/

/-- R64: the first check that fails and its refusal, the checks taken in order. IN_USE and UNITS_ROSE are the two
that raise a strike. -/
def State.cardCheck (s : State) (i : StationId) (x : Serial) (batch units : Nat) : Option CardRefusal :=
  if (s.station i).state = .outOfService then some .outOfService
  else if (s.station i).state ≠ .idle then some .stationBusy
  else if s.mu.service = .closed then some .closed
  else
    match s.ct.batchEntry batch with
    | none => some .unknownBatch
    | some e =>
      if e.standing = .withdrawn then some .withdrawn
      else if e.face < units then some .overFace
      else if units = 0 then some .empty
      else
        match s.ct.barCode x with
        | some c => some (.barred c)
        | none =>
          match s.ct.find x with
          | none => none
          | some r =>
            if !r.isRemembered then some .inUse
            else if r.confirmed < units then some .unitsRose
            else none

/-- The refusal counts a strike (R64, R75). -/
def CardRefusal.strikes : CardRefusal → Bool
  | .inUse | .unitsRose => true
  | .stationBusy | .outOfService | .closed | .unknownBatch | .withdrawn | .overFace | .empty | .barred _ => false

/-- R71: the card is admitted. Place and record first, then its orders are settled, then the station names it. -/
def State.acceptCard (s : State) (i : StationId) (x : Serial) (batch units : Nat) : State :=
  let s1 := s.withCards (activateCard i x batch units s.ct.cards)
  let s2 := { s1 with de := s1.de.settle x }
  let s3 := s2.mapStation i fun r => { r with card := some x, state := .ready }
  s3.tellCard i (.cardOk units)

/-- R56: the card a station names becomes REMEMBERED, and the station stops naming it. -/
def State.removeCard (s : State) (i : StationId) : State :=
  match (s.station i).card with
  | some x => (s.withCards (rememberCard x s.ct.cards)).mapStation i fun r => { r with card := none }
  | none => s

end Sys2Proof.Machine
end

