-- ==== Sys2Proof/Machine/Records.lean ====
section
/-! DEFINITION. The Record Queue: building and storing a record (R133, R134, R137), the retained store (R141, R142),
fetch and release (R139, R140). -/

namespace Sys2Proof.Machine

/-- R141: the queue, the next record number and the check value are written into the retained store. -/
def RecordQueue.save (q : RecordQueue) : RecordQueue :=
  { q with store := { records := q.records, nextNumber := q.nextNumber, checkAgrees := true, vbakHeld := true } }

/-- R134: the next record number; 1 follows 4294967295. -/
def nextRecordNumber (n : Nat) : Nat := if n < lastRecordNumber then n + 1 else 1

/-- R133: the record of a call context. The talk duration of a call that never entered TALK is 0 (R22). -/
def buildRecord (n : Nat) (i : StationId) (x : CallContext) : CallRecord :=
  { number := n, station := i, card := x.card, dialled := x.dialled,
    charged := match x.kind with | .free => false | .charged _ => true
    bank := x.bank, atAnswer := x.atAnswer, openTime := x.openTime, answered := x.answered,
    talkDuration := x.talkDuration.getD 0, intervalsBegun := x.intervalsBegun, unitsBurned := x.unitsBurned,
    unresolved := x.unresolved, endCause := x.endCause.getD .restart }

/-- R137: the reservation is converted, the record takes its number and joins the tail. R134 numbers records at storing; the
last sentence of R130 has the number give the order of admission: the model follows R134 (log 26). -/
def RecordQueue.append (q : RecordQueue) (i : StationId) (x : CallContext) : RecordQueue :=
  { q with
    records := q.records ++ [buildRecord q.nextNumber i x]
    nextNumber := nextRecordNumber q.nextNumber
    reservations := q.reservations - 1 }.save

/-- R140: every record numbered `n` or less is removed. -/
def RecordQueue.release (q : RecordQueue) (n : Nat) : RecordQueue :=
  { q with records := q.records.filter fun r => decide (n < r.number) }.save

/-- R142: the retained store is judged at power-up. -/
def RecordQueue.judged (q : RecordQueue) : RecordQueue :=
  if q.store.vbakHeld && q.store.checkAgrees then
    { records := q.store.records, nextNumber := q.store.nextNumber, reservations := 0, retained := true,
      store := q.store }
  else RecordQueue.reset

/-- The RQ without its working copy: the retained store and the RETAINED flag stay (R141, R142), and nothing else is
held until the next power-up (log 9). -/
def RecordQueue.unpowered (q : RecordQueue) : RecordQueue :=
  { RecordQueue.reset with retained := q.retained, store := q.store }

/-- Stored records plus reservations is less than 512 (R9 step 6). -/
def RecordQueue.hasPlace (q : RecordQueue) : Bool := decide (q.records.length + q.reservations < recordRoom)

/-- R136. -/
def RecordQueue.reserve (q : RecordQueue) : RecordQueue := { q with reservations := q.reservations + 1 }

/-- The CC hands a call context to be stored (R21 step 1, R137). -/
def State.storeRecord (s : State) (i : StationId) (x : CallContext) : State := { s with rq := s.rq.append i x }

end Sys2Proof.Machine
end

