-- ==== Sys2Proof/Machine/Tariff.lean ====
section
/-! DEFINITION. The Time Base and the Tariff Store: the clock (R121 to R125), lookup (R107), calendar (R112), period
and price (R110, R126, R127), validation and activation (R114 to R116), pins (R102, R103). -/

namespace Sys2Proof.Machine

/-! ## The clock -/

/-- Length of a month (R121). Year 0 is divisible by 4. -/
def monthLength (year month : Nat) : Nat :=
  if month = 2 then (if year % 4 = 0 then 29 else 28)
  else if month = 4 ∨ month = 6 ∨ month = 9 ∨ month = 11 then 30
  else 31

/-- A real date (R121, R123): the zero date is none. -/
def Date.real (d : Date) : Bool :=
  decide (d.year ≤ 99 ∧ 1 ≤ d.month ∧ d.month ≤ 12 ∧ 1 ≤ d.day ∧ d.day ≤ monthLength d.year d.month)

/-- The zero date (R121). -/
def Date.zero : Date := { year := 0, month := 0, day := 0 }

/-- The date a day later (R122). The zero date stays. -/
def Date.next (d : Date) : Date :=
  if d = Date.zero then d
  else if d.day < monthLength d.year d.month then { d with day := d.day + 1 }
  else if d.month < 12 then { d with month := d.month + 1, day := 1 }
  else { year := if d.year < 99 then d.year + 1 else 0, month := 1, day := 1 }

/-- The time of day a tenth later, and whether midnight was passed (R122). -/
def TimeOfDay.next (t : TimeOfDay) : TimeOfDay × Bool :=
  if t.tenth < 9 then ({ t with tenth := t.tenth + 1 }, false)
  else if t.second < 59 then ({ t with second := t.second + 1, tenth := 0 }, false)
  else if t.minute < 59 then ({ t with minute := t.minute + 1, second := 0, tenth := 0 }, false)
  else if t.hour < 23 then ({ hour := t.hour + 1, minute := 0, second := 0, tenth := 0 }, false)
  else ({ hour := 0, minute := 0, second := 0, tenth := 0 }, true)

/-- R122: the clock a tenth later; the day type does not change. -/
def TimeBase.advance (b : TimeBase) : TimeBase :=
  { b with time := b.time.next.1, date := if b.time.next.2 then b.date.next else b.date }

/-- R125: the TB's answer. -/
def TimeBase.reading (b : TimeBase) : ClockReading :=
  { date := b.date, dayType := b.dayType, time := b.time, trusted := b.trusted }

/-- The minute of the day, seconds and tenths dropped (R112, R126). -/
def TimeBase.minuteOfDay (b : TimeBase) : Nat := b.time.hour * 60 + b.time.minute

/-- R123: a CLOCK frame whose content passes every check sets the clock, sets trusted and starts the untrust timer;
any other is discarded. The tenths count on from 0 at the next tick (log 24). -/
def TimeBase.accept (b : TimeBase) (f : ClockFrame) : TimeBase :=
  let d : Date := { year := f.year.toNat, month := f.month.toNat, day := f.day.toNat }
  match dayTypeOf f.dayType.toNat with
  | none => b
  | some t =>
    if d.real ∧ f.hour.toNat ≤ 23 ∧ f.minute.toNat ≤ 59 ∧ f.second.toNat ≤ 59 then
      { date := d, dayType := t,
        time := { hour := f.hour.toNat, minute := f.minute.toNat, second := f.second.toNat, tenth := 0 },
        trusted := true, untrust := some untrustTime }
    else b

/-! ## Lookup -/

/-- The longer of the best match so far and a slot, when the slot matches (R107). -/
def longerMatch (dialled : List Digit) (best : Option PrefixEntry) (e : PrefixEntry) : Option PrefixEntry :=
  if e.digits.isPrefixOf dialled then
    match best with
    | some q => if q.digits.length < e.digits.length then some e else best
    | none => some e
  else best

/-- R107: the action of the longest matching prefix entry. -/
def Bank.lookup (x : Bank) (dialled : List Digit) : Option Action :=
  ((x.prefixes.map Prod.snd).foldl (longerMatch dialled) none).map (·.action)

/-! ## Calendar and period -/

/-- The slots of a day type: offsets 0 to 7, 8 to 15, 16 to 23 (R111). -/
def Bank.daySlots (x : Bank) (d : DayType) : List CalendarSlot :=
  (x.calendar.filter fun e => e.1 / 8 == d.code).map Prod.snd

/-- The slot with the greatest minute. -/
def latestSlot : List CalendarSlot → Option CalendarSlot
  | [] => none
  | c :: cs =>
    match latestSlot cs with
    | some e => if c.minute < e.minute then some e else some c
    | none => some c

/-- R112: the calendar period at day type `d` and minute `m`. -/
def Bank.calendarPeriod (x : Bank) (d : DayType) (m : Nat) : Period :=
  match latestSlot ((x.daySlots d).filter fun c => decide (c.minute ≤ m)) with
  | some c => c.period
  | none =>
    match latestSlot (x.daySlots d) with
    | some c => c.period
    | none => 0

/-- The entry of band `b` and period `p`: offset band × 4 + period (R109). -/
def Bank.bandEntry (x : Bank) (b : Band) (p : Period) : Option BandEntry :=
  SlotTable.read (b.val * 4 + p.val) x.bands

/-- The price of an entry, all 0 for an entry that is not valid (no run reads one: R110, log 19). -/
def Bank.price (x : Bank) (b : Band) (p : Period) : BandEntry :=
  (x.bandEntry b p).getD { length := 0, units := 0, setup := 0 }

/-- R127: `e` charges more per unit of talk time than `f`, compared exactly. -/
def BandEntry.dearer (e f : BandEntry) : Bool := decide (f.units * e.length < e.units * f.length)

/-- R127: the period whose entry has the greatest ratio of units to length, the lower period on a tie. -/
def Bank.dearestPeriod (x : Bank) (b : Band) : Period :=
  [1, 2, 3].foldl (fun best p => if (x.price b p).dearer (x.price b best) then p else best) 0

/-- R126, R127: the period in force for band `b` of bank `x`. -/
def State.period (s : State) (x : BankId) (b : Band) : Period :=
  if s.tb.trusted then (s.bank x).calendarPeriod s.tb.dayType s.tb.minuteOfDay else (s.bank x).dearestPeriod b

/-- R110: the price of band `b` in bank `x` now. -/
def State.priceNow (s : State) (x : BankId) (b : Band) : BandEntry := (s.bank x).price b (s.period x b)

/-! ## States of the banks -/

/-- The ACTIVE bank, if there is one: at most one is (R101). -/
def State.activeBank (s : State) : Option BankId :=
  if s.ts.a.state = .active then some .a else if s.ts.b.state = .active then some .b else none

/-- R102. -/
def State.pinBank (s : State) (x : BankId) : State := s.setBank x { s.bank x with pins := (s.bank x).pins + 1 }

/-- R103: a DRAINING bank whose pin count reaches 0 becomes STANDBY. -/
def Bank.unpinned (b : Bank) : Bank :=
  { b with pins := b.pins - 1, state := if b.state = .draining ∧ b.pins - 1 = 0 then .standby else b.state }

def State.unpinBank (s : State) (x : BankId) : State := s.setBank x (s.bank x).unpinned

/-- R114: a prefix entry's band, if it names one, is valid in all four periods. -/
def Bank.priced (x : Bank) (e : PrefixEntry) : Bool :=
  match e.action with
  | .band b => [0, 1, 2, 3].all fun p => (x.bandEntry b p).isSome
  | .free | .barred => true

/-- R114: the bank passes validation. -/
def Bank.passes (x : Bank) : Bool := !x.prefixes.isEmpty && (x.prefixes.map Prod.snd).all x.priced

/-- R116: what the other bank becomes when a bank is activated. -/
def Bank.replaced (b : Bank) : Bank :=
  { b with state := match b.state with
      | .active => if b.pins = 0 then .standby else .draining
      | .empty => .empty
      | .standby => .standby
      | .draining => .draining }

/-- R115, R116: the answer to ACTIVATE_BANK and the banks after it. -/
def State.activate (s : State) (x : BankId) : Status × State :=
  match (s.bank x).state with
  | .active => (.done, s)
  | .draining => (.bankBusy, s)
  | .empty => (.invalid, s)
  | .standby =>
    if (s.bank x).passes then
      (.done, (s.setBank x { s.bank x with state := .active }).setBank x.other (s.bank x.other).replaced)
    else (.invalid, s)

end Sys2Proof.Machine
end

