-- ==== Sys2Proof/Machine/Calls.lean ====
section
/-! DEFINITION. The Call Controller: admission (R9, R11), the clear (R15, R17, R22, R23), completion (R20, R21), taking
a station out of service (R25), and barring a card in use (R24, R73, R76). -/

namespace Sys2Proof.Machine

/-! ## Clearing -/

/-- R22: tenths from the answer mark to now, for a station leaving TALK. -/
def talkTenths (now : Nat) (r : StationRecord) (x : CallContext) : Option Nat :=
  if r.state = .talk then some (now - x.answerMark.getD now) else x.talkDuration

/-- The context as a clear with cause `c` leaves it (R15 steps 2, 3 and 6, R17). -/
def CallContext.cleared (now : Nat) (r : StationRecord) (c : EndCause) (released resolved : Bool) (x : CallContext) :
    CallContext :=
  { x with talkDuration := talkTenths now r x, endCause := some c, released := released,
           orderResolved := some resolved }

/-- The station record as a clear with cause `c` leaves it, in CLEARING (R15, R17): timers and list gone, and the
release timer running unless released is true. -/
def StationRecord.cleared (now : Nat) (c : EndCause) (released resolved : Bool) (r : StationRecord) : StationRecord :=
  { r with
    state := .clearing
    context := r.context.map (CallContext.cleared now r c released resolved)
    intervals := []
    answerTimer := none
    headTimer := none
    releaseTimer := if released then none else some releaseTime }

/-- R21 step 4: the station's new state when its clear completes. -/
def StationRecord.completed (r : StationRecord) : StationRecord :=
  { r with
    context := none
    releaseTimer := none
    state := if r.thenOut then .outOfService else if r.card.isSome then .ready else .idle
    thenOut := false }

/-- R21: the record is stored, the bank unpinned, the context discarded and the new state set. With then_out set, a
card still named becomes REMEMBERED. -/
def State.complete (s : State) (i : StationId) (x : CallContext) : State :=
  let s1 := (s.storeRecord i x).unpinBank x.bank
  let s2 := if (s.station i).thenOut then s1.removeCard i else s1
  s2.mapStation i StationRecord.completed

/-- R20, R21: completion follows when released and order resolved are both true in CLEARING. -/
def State.completeIfDone (s : State) (i : StationId) : State :=
  match (s.station i).state, (s.station i).context with
  | .clearing, some x => if x.released ∧ x.orderResolved = some true then s.complete i x else s
  | _, _ => s

/-- Order resolved at the start of a clear: the DE holds no order for the station (R20). -/
def State.orderFree (s : State) (i : StationId) : Bool := (s.order i).isNone

/-- R15: the part starts the clear of the call at station `i`, in SETUP or TALK, with cause `c`. -/
def State.startClear (s : State) (i : StationId) (c : EndCause) : State :=
  let s1 := s.mapStation i (StationRecord.cleared s.elapsed c false (s.orderFree i))
  let s2 := s1.offerLink (.callClear i (.cause c))
  (s2.tellStation i (.callEnded c)).completeIfDone i

/-- R23: the clear of a call with cause LINK_DOWN: no CALL_CLEAR, released true at once, no release timer. -/
def State.clearLinkDown (s : State) (i : StationId) : State :=
  let s1 := s.mapStation i (StationRecord.cleared s.elapsed .linkDown true (s.orderFree i))
  (s1.tellStation i (.callEnded .linkDown)).completeIfDone i

/-- R17: the exchange starts the clear with cause byte `x`. -/
def State.exchangeClear (s : State) (i : StationId) (x : Byte) : State :=
  let s1 := s.mapStation i (StationRecord.cleared s.elapsed (.exchangeClear x) true (s.orderFree i))
  let s2 := s1.offerLink (.callReleased i)
  (s2.tellStation i (.callEnded (.exchangeClear x))).completeIfDone i

/-- R16, R18, R23: in CLEARING with released false, released becomes true and the release timer stops. -/
def StationRecord.released (r : StationRecord) : StationRecord :=
  { r with context := r.context.map (fun x => { x with released := true }), releaseTimer := none }

/-- The release of the call of station `i` in CLEARING; released already true leaves everything as it is. -/
def State.releaseCall (s : State) (i : StationId) : State :=
  match (s.station i).context with
  | some x => if x.released then s else (s.mapStation i StationRecord.released).completeIfDone i
  | none => s

/-- A station is in SETUP or TALK. -/
def StationRecord.inCall (r : StationRecord) : Bool := r.state == .setup || r.state == .talk

/-- R23: what link DOWN does to one station. -/
def State.linkDownStation (s : State) (i : StationId) : State :=
  match (s.station i).state with
  | .setup | .talk => s.clearLinkDown i
  | .clearing => s.releaseCall i
  | .idle | .ready | .outOfService => s

/-! ## Out of service -/

/-- R25: the CC is asked to take station `i` out of service with reason `r`. -/
def State.takeOut (s : State) (i : StationId) (r : OutReason) : State :=
  match (s.station i).state with
  | .idle =>
    (s.mapStation i fun t => { t with state := .outOfService, outReason := some r }).tellStation i (.stationMode .out)
  | .ready =>
    ((s.removeCard i).mapStation i fun t => { t with state := .outOfService, outReason := some r }).tellStation i
      (.stationMode .out)
  | .setup | .talk =>
    ((s.mapStation i fun t => { t with thenOut := true, outReason := some r }).startClear i r.toEnd).tellStation i
      (.stationMode .out)
  | .clearing =>
    (s.mapStation i fun t => if t.thenOut then t else { t with thenOut := true, outReason := some r }).tellStation i
      (.stationMode .out)
  | .outOfService => s

/-! ## Barring a card in use -/

/-- R24: the station whose card was barred acts by its state, its card field already absent. -/
def State.lostToBar (s : State) (i : StationId) : State :=
  match (s.station i).state with
  | .ready => s.mapStation i fun t => { t with state := .idle }
  | .setup | .talk => s.startClear i .barredCard
  | .clearing | .idle | .outOfService => s

/-- R73: the CT bars the card with serial `x`, ACTIVE at station `i`, with reason code `c`. -/
def State.barCard (s : State) (i : StationId) (x : Serial) (c : Byte) : State :=
  let s1 := s.withCards (rememberCard x s.ct.cards)
  let s2 := s1.tellCard i (.cardRefused (.barred c))
  (s2.mapStation i fun t => { t with card := none }).lostToBar i

/-- The record ACTIVE at station `i` whose serial satisfies `p`. -/
def CardTable.activeAt (t : CardTable) (i : StationId) (p : Serial → Bool) : Option CardRecord :=
  t.cards.find? fun r => r.activeAt i && p r.serial

/-- R74: one station's part of a hot-list write. -/
def State.barIfCovered (h : HotRange) (s : State) (i : StationId) : State :=
  match s.ct.activeAt i h.covers with
  | some r => s.barCard i r.serial h.code
  | none => s

/-- R74: every ACTIVE card in the new range is barred, in ascending order of station number. -/
def State.barRange (s : State) (h : HotRange) : State := stationIds.foldl (State.barIfCovered h) s

/-- R75, R76: a strike against the record of a serial. A third strike adds the serial to the auto-bar list and bars
the card where it is ACTIVE, with reason code 0. -/
def State.countStrike (s : State) (x : Serial) : State :=
  let s1 := s.withCards (changeCard x CardRecord.strike s.ct.cards)
  match s1.ct.find x with
  | some r =>
    if r.strikes = thirdStrike then
      let s2 := { s1 with ct := { s1.ct with autobar := addAutobar x s1.ct.autobar } }
      match r.state with
      | .active i => s2.barCard i x 0
      | .remembered _ => s2
    else s1
  | none => s1

/-- R64, R71, R75: a CARD_IN from station `i` is judged, and the card is admitted or refused. The refusal is queued
after the strike has acted. -/
def State.judgeCard (s : State) (i : StationId) (x : Serial) (batch units : Nat) : State :=
  match s.cardCheck i x batch units with
  | none => s.acceptCard i x batch units
  | some r => (if r.strikes then s.countStrike x else s).tellCard i (.cardRefused r)

/-! ## Call admission -/

/-- R9 steps 4 and 5: the kind the lookup gives, or the refusal. -/
def State.judgeDialled (s : State) (i : StationId) (dialled : List Digit) : Except CallRefusal (BankId × CallKind) :=
  match s.activeBank with
  | none => .error .noTariff
  | some x =>
    match (s.bank x).lookup dialled with
    | none => .error .noTariff
    | some .barred => .error .barredNumber
    | some .free => .ok (x, .free)
    | some (.band b) =>
      if (s.station i).card.isNone then .error .noCard
      else if s.cardBound i < (s.priceNow x b).setup + (s.priceNow x b).units then .error .noUnits
      else .ok (x, .charged b)

/-- R9: the admission checks in order; the bank and the kind of an admitted call. -/
def State.callCheck (s : State) (i : StationId) (dialled : List Digit) : Except CallRefusal (BankId × CallKind) :=
  if (s.station i).state = .outOfService then .error .outOfService
  else if (s.station i).state ≠ .idle ∧ (s.station i).state ≠ .ready then .error .busy
  else if s.mu.service = .closed then .error .closed
  else if s.xlc.link = .down then .error .linkDown
  else
    match s.judgeDialled i dialled with
    | .error r => .error r
    | .ok k =>
      if !s.rq.hasPlace then .error .recordsFull
      else if !s.xlc.hasRoom then .error .linkCongested
      else .ok k

/-- Serial and batch of the card a station holds (R3). -/
def State.heldCard (s : State) (i : StationId) : Option (Serial × Nat) :=
  match (s.station i).card with
  | some x => (s.ct.find x).map fun r => (x, r.batch)
  | none => none

/-- R3: the call context at admission. -/
def State.newContext (s : State) (i : StationId) (dialled : List Digit) (x : BankId) (k : CallKind) : CallContext :=
  { dialled := dialled, kind := k, card := s.heldCard i, bank := x, openTime := s.tb.reading, answered := false,
    answerMark := none, atAnswer := none, intervalsBegun := 0, unitsBurned := 0, unresolved := none,
    finalMark := none, talkDuration := none, endCause := none, released := false, orderResolved := none }

/-- R11: the call is admitted: pin, reservation, context, CALL_OPEN, answer timer, SETUP. -/
def State.openCall (s : State) (i : StationId) (dialled : List Digit) (x : BankId) (k : CallKind) : State :=
  let s1 := s.pinBank x
  let s2 := { s1 with rq := s1.rq.reserve }
  let s3 := s2.mapStation i fun r => { r with context := some (s.newContext i dialled x k) }
  let s4 := s3.offerLink (.callOpen i dialled)
  s4.mapStation i fun r => { r with answerTimer := some answerTime, state := .setup }

/-- R9, R11: a NUMBER from station `i` is judged, and the call is admitted or refused. -/
def State.judgeNumber (s : State) (i : StationId) (dialled : List Digit) : State :=
  match s.callCheck i dialled with
  | .ok (x, k) => s.openCall i dialled x k
  | .error r => s.tellStation i (.callRefused r)

end Sys2Proof.Machine
end

