-- ==== Sys2Proof/Machine/Orders.lean ====
section
/-! DEFINITION. The Debit Engine and the metering it drives: tags (R79), outcomes (R44 to R48, R88, R89, R92, R93), issue
(R80), replenishment (R36 to R38), the opening order (R34, R35) and delivery reports (R81 to R83). -/

namespace Sys2Proof.Machine

/-! ## Tags -/

/-- A tag neither held by an order nor in the retired-tag list (R79). -/
def DebitEngine.tagFree (d : DebitEngine) (t : Nat) : Bool :=
  (d.orders.values.all fun o => match o with | some b => b.tag != t | none => true) &&
    d.retired.all fun p => p.2 != t

/-- Advancing from 255 gives 1 (R79). -/
def nextTag (t : Nat) : Nat := if t < 255 then t + 1 else 1

/-- The first free tag from `t` on, looked for `fuel` times. -/
def DebitEngine.searchTag (d : DebitEngine) : Nat → Nat → Nat
  | 0, t => t
  | fuel + 1, t => if d.tagFree t then t else d.searchTag fuel (nextTag t)

/-- R79: the tag of the next order. -/
def DebitEngine.offeredTag (d : DebitEngine) : Nat := d.searchTag 255 d.tagCounter

/-! ## Outcomes -/

/-- The outcome of a burn order (4.4). -/
inductive OrderOutcome where
  | full (unitsNow : Nat)
  | short (burned unitsNow : Nat)
  | undelivered
  | timedOut
  deriving DecidableEq, Repr

/-- R84: the outcome a matching report names, the burned count bounded by the units ordered. -/
def reportOutcome (ordered burned unitsNow : Nat) : OrderOutcome :=
  if burned < ordered then .short burned unitsNow else .full unitsNow

/-- R89: the update of the card record for an outcome. -/
def BurnOrder.updateCard (o : BurnOrder) : OrderOutcome → CardRecord → CardRecord
  | .full now => CardRecord.reported o.units now
  | .short b now => CardRecord.reported b now
  | .undelivered => id
  | .timedOut => CardRecord.noReply o.units

/-- R88 step 1: unless the order is settled, the CT applies the update to the record of the order's serial. -/
def State.cardUpdate (s : State) (o : BurnOrder) (out : OrderOutcome) : State :=
  if o.settled then s else s.withCards (changeCard o.serial (o.updateCard out) s.ct.cards)

/-- R92. -/
def OrderOutcome.failures : OrderOutcome → Nat → Nat
  | .full _, _ => 0
  | .short _ _, n => min faultCount (n + 1)
  | .undelivered, n => min faultCount (n + 1)
  | .timedOut, n => min faultCount (n + 1)

/-- R88 step 2. -/
def State.countFailure (s : State) (i : StationId) (out : OrderOutcome) : State :=
  { s with de := { s.de with failures := s.de.failures.set i (out.failures (s.de.failures.get i)) } }

/-- R44: the totals of the call context. -/
def BurnOrder.totals (o : BurnOrder) (out : OrderOutcome) (x : CallContext) : CallContext :=
  match out with
  | .full _ => { x with unitsBurned := x.unitsBurned + o.units }
  | .short b _ => { x with unitsBurned := x.unitsBurned + b }
  | .undelivered => x
  | .timedOut => { x with unresolved := some o.units }

/-- R45: every PRICED entry becomes PAID. -/
def payAll (l : List Interval) : List Interval := l.map fun e => { e with status := .paid }

/-- R46: PRICED entries are covered in list order from `b` units; the first that cannot be covered and every entry
behind it leave the list. -/
def coverFrom : Nat → List Interval → List Interval
  | _, [] => []
  | b, e :: es =>
    match e.status with
    | .paid => e :: coverFrom b es
    | .priced => if e.units ≤ b then { e with status := .paid } :: coverFrom (b - e.units) es else []

/-- R47: every PRICED entry leaves the list. -/
def keepPaid (l : List Interval) : List Interval := l.filter fun e => e.status == .paid

/-- R46: the setup units deducted from a short opening order, read from the band and period at answer. -/
def State.setupDue (s : State) (o : BurnOrder) (x : CallContext) : Nat :=
  match o.purpose, x.atAnswer with
  | .opening, some (b, p) => ((s.bank x.bank).price b p).setup
  | _, _ => 0

/-- R46: the list a SHORT outcome of `b` units leaves. When `b` is below the setup units no entry is covered. -/
def coverShort (due b : Nat) (l : List Interval) : List Interval := if b < due then keepPaid l else coverFrom (b - due) l

/-- R42, R43: the call is marked final, and UNITS_LOW is queued. -/
def State.markFinal (s : State) (i : StationId) (c : FinalCause) : State :=
  (s.mapContext i fun x => { x with finalMark := some c }).tellStation i (.unitsLow c)

/-- R46, R47: the list after an outcome that did not pay it whole. With its head left the call is final; with none left
the part starts the clear at once. -/
def State.cutBack (s : State) (i : StationId) (l : List Interval) (c : FinalCause) : State :=
  let s1 := s.mapStation i fun r => { r with intervals := l }
  if l.isEmpty then s1.startClear i c.toEnd else s1.markFinal i c

/-- R44, R45, R46, R47: an outcome works on the interval list of a station in TALK. -/
def State.outcomeInTalk (s : State) (i : StationId) (o : BurnOrder) (out : OrderOutcome) (x : CallContext) : State :=
  let l := (s.station i).intervals
  match out with
  | .full _ => s.mapStation i fun r => { r with intervals := payAll r.intervals }
  | .short b _ => s.cutBack i (coverShort (s.setupDue o x) b l) .burnShort
  | .undelivered => s.cutBack i (keepPaid l) .burnFailed
  | .timedOut => s.cutBack i (keepPaid l) .burnFailed

/-- R20, R48: in CLEARING order resolved becomes true, and the clear completes if released is true. -/
def State.resolveOrder (s : State) (i : StationId) : State :=
  (s.mapContext i fun x => { x with orderResolved := some true }).completeIfDone i

/-- R44: the CC acts on an outcome, the order already deleted: the totals first, then the list in TALK or completion
in CLEARING. Replenishment after FULL follows in `takeOutcome`. -/
def State.outcomeToCall (s : State) (i : StationId) (o : BurnOrder) (out : OrderOutcome) : State :=
  let s1 := s.mapContext i (o.totals out)
  match (s.station i).state, (s.station i).context with
  | .talk, some x => s1.outcomeInTalk i o out x
  | .clearing, _ => s1.resolveOrder i
  | _, _ => s1

/-- R88 steps 1 to 4, without the replenishment that step 3 considers after FULL. -/
def State.outcomeSteps (s : State) (i : StationId) (o : BurnOrder) (out : OrderOutcome) : State :=
  let s1 := (s.cardUpdate o out).countFailure i out
  let s2 := (s1.setOrder i none).outcomeToCall i o out
  if s1.de.failures.get i = faultCount then s2.takeOut i .stationFault else s2

/-! ## Issue and replenishment -/

/-- The order a request creates (R80). -/
def DebitEngine.newOrder (d : DebitEngine) (x : Serial) (units : Nat) (p : Purpose) : BurnOrder :=
  { tag := d.offeredTag, serial := x, units := units, purpose := p, state := .sending, settled := false }

/-- R79, R80: an order is created and its BURN frame offered. A full row outbound queue gives UNDELIVERED at once. -/
def State.issueOrder (s : State) (i : StationId) (x : Serial) (units : Nat) (p : Purpose) : State :=
  let o := s.de.newOrder x units p
  let s1 := { s with de := { s.de with orders := s.de.orders.set i (some o), tagCounter := nextTag o.tag } }
  if s.rlc.hasRoom then s1.offerRow ⟨.station i, .burn o.tag x units, .de⟩ else s1.outcomeSteps i o .undelivered

/-- R34, R37: how many intervals of `u` units `bound` pays, at most the class. -/
def payable (cls bound u : Nat) : Nat := min cls (bound / u)

/-- `j` PRICED entries (R35, R37). -/
def pricedBlock (j : Nat) (e : BandEntry) : List Interval :=
  List.replicate j { length := e.length, units := e.units, status := .priced }

/-- R37, R38: the next block is priced and ordered, or the call is marked final with EXHAUSTED. -/
def State.replenish (s : State) (i : StationId) (x : BankId) (b : Band) (card : Serial) : State :=
  let e := s.priceNow x b
  let j := payable (s.station i).cls (s.lowerBound card) e.units
  if j = 0 then s.markFinal i .exhausted
  else
    (s.mapStation i fun r => { r with intervals := r.intervals ++ pricedBlock j e }).issueOrder i card (j * e.units)
      .replenish

/-- R36: the four conditions. -/
def State.replenishDue (s : State) (i : StationId) (x : CallContext) : Bool :=
  (match (s.station i).intervals with
    | [e] => e.status == .paid
    | _ => false) && (s.order i).isNone && x.finalMark.isNone

/-- R36: replenishment is considered for a station in TALK with a CHARGED call. -/
def State.considerReplenish (s : State) (i : StationId) : State :=
  match (s.station i).state, (s.station i).context, (s.station i).card with
  | .talk, some x, some card =>
    match x.kind with
    | .charged b => if s.replenishDue i x then s.replenish i x.bank b card else s
    | .free => s
  | _, _, _ => s

/-- R88: the DE takes an outcome for the order of station `i`. -/
def State.takeOutcome (s : State) (i : StationId) (o : BurnOrder) (out : OrderOutcome) : State :=
  match out with
  | .full now => (s.outcomeSteps i o (.full now)).considerReplenish i
  | .short b now => s.outcomeSteps i o (.short b now)
  | .undelivered => s.outcomeSteps i o .undelivered
  | .timedOut => s.outcomeSteps i o .timedOut

/-! ## The answer -/

/-- R12: answered, answer mark; and for a CHARGED call band and period at answer (R32). -/
def CallContext.answer (now : Nat) (at' : Option (Band × Period)) (x : CallContext) : CallContext :=
  { x with answered := true, answerMark := some now, atAnswer := at' }

/-- R12: the answer of a FREE call. -/
def State.answerFree (s : State) (i : StationId) : State :=
  (s.mapStation i fun r =>
    { r with answerTimer := none, context := r.context.map (CallContext.answer s.elapsed none), state := .talk }).tellStation
    i .connected

/-- R35: TALK is set up with `j` intervals, CONNECTED is queued and the opening order is asked for. -/
def State.openTalk (s : State) (i : StationId) (card : Serial) (e : BandEntry) (j : Nat) : State :=
  let s1 := s.mapStation i fun r =>
    { r with intervals := pricedBlock j e, headTimer := some e.length, state := .talk,
             context := r.context.map fun x => { x with intervalsBegun := 1 } }
  (s1.tellStation i .connected).issueOrder i card (e.setup + j * e.units) .opening

/-- R34: the number of intervals the opening order pays: 0 when the lower bound is below the setup units. -/
def openingCount (cls bound : Nat) (e : BandEntry) : Nat := payable cls (bound - e.setup) e.units

/-- R12, R34: the answer of a CHARGED call: the opening pricing, then TALK or the clear with NO_UNITS. A CHARGED call
always names its card (R33); one that did not could pay nothing (log 19). -/
def State.answerCharged (s : State) (i : StationId) (x : BankId) (b : Band) : State :=
  let p := s.period x b
  let e := (s.bank x).price b p
  let j := openingCount (s.station i).cls (s.cardBound i) e
  let s1 := s.mapStation i fun r =>
    { r with answerTimer := none, context := r.context.map (CallContext.answer s.elapsed (some (b, p))) }
  match (s.station i).card with
  | some card => if j = 0 then s1.startClear i .noUnits else s1.openTalk i card e j
  | none => s1.startClear i .noUnits

/-- R12, R19: a CALL_ANSWERED for station `i`. -/
def State.answerCall (s : State) (i : StationId) : State :=
  match (s.station i).state, (s.station i).context with
  | .setup, some x =>
    match x.kind with
    | .free => s.answerFree i
    | .charged b => s.answerCharged i x.bank b
  | _, _ => s.offerLink (.callClear i .noCall)

/-! ## Head expiry -/

/-- R39, R31: a PAID head begins. -/
def StationRecord.beginHead (e : Interval) (rest : List Interval) (r : StationRecord) : StationRecord :=
  { r with intervals := e :: rest, headTimer := some e.length,
           context := r.context.map fun x => { x with intervalsBegun := x.intervalsBegun + 1 } }

/-- R41: the final cause of the call, EXHAUSTED for a call that is not final (no run empties its list: log 19). -/
def CallContext.finalEnd (x : CallContext) : EndCause := (x.finalMark.getD .exhausted).toEnd

/-- R39 to R41: the head of station `i` has run out. -/
def State.headExpired (s : State) (i : StationId) (x : CallContext) : State :=
  match (s.station i).intervals.tail with
  | [] => s.startClear i x.finalEnd
  | e :: rest =>
    match e.status with
    | .paid => (s.mapStation i (StationRecord.beginHead e rest)).considerReplenish i
    | .priced => s.startClear i .burnLate

/-! ## Replies and delivery reports -/

/-- R85: the station and tag of an order answered while SENDING enter the retired-tag list. -/
def State.retireTag (s : State) (i : StationId) (o : BurnOrder) : State :=
  match o.state with
  | .sending => { s with de := { s.de with retired := s.de.retired ++ [(i, o.tag)] } }
  | .awaiting _ => s

/-- R84 to R86: a BURN_REPORT from station `i`. The tag is retired before the outcome is taken, so that a
replenishment in the same event does not take it (R79, log 16). -/
def State.takeReport (s : State) (i : StationId) (tag burned unitsNow : Nat) : State :=
  match s.order i with
  | some o =>
    if o.tag = tag then (s.retireTag i o).takeOutcome i o (reportOutcome o.units burned unitsNow) else s
  | none => s

/-- The order of station `i` is SENDING under tag `t`. -/
def State.sendingOrder (s : State) (i : StationId) (t : Nat) : Option BurnOrder :=
  match s.order i with
  | some o => if o.tag = t ∧ o.state = .sending then some o else none
  | none => none

/-- R83: a report for a retired station and tag removes the pair. -/
def State.forgetTag (s : State) (i : StationId) (t : Nat) : State :=
  { s with de := { s.de with retired := s.de.retired.erase (i, t) } }

/-- R81, R83: a BURN frame is reported delivered. -/
def State.burnDelivered (s : State) (i : StationId) (t : Nat) : State :=
  match s.sendingOrder i t with
  | some o => s.setOrder i (some { o with state := .awaiting replyTime })
  | none => s.forgetTag i t

/-- R82, R83: a BURN frame is reported undelivered. -/
def State.burnUndelivered (s : State) (i : StationId) (t : Nat) : State :=
  match s.sendingOrder i t with
  | some o => s.takeOutcome i o .undelivered
  | none => s.forgetTag i t

end Sys2Proof.Machine
end

