-- ==== Sys2Proof/Machine/Power.lean ====
section
/-! DEFINITION. Supply and RESET: POWER_UP, RESET_ASSERTED, POWER_LOSS, VBAK_LOST (R5, R141, R142, R145, R161, R175). -/

namespace Sys2Proof.Machine

/-- What a meaning answers. -/
abbrev Result := Host.Outcome State Fault Refusal

/-- Every block at its power-up state, the RQ as given; the commands waiting and the count of free values stay. -/
def State.atPowerUp (s : State) (pins : Pins) (q : RecordQueue) : State :=
  { State.reset with pins := pins, rq := q, free := s.free, pending := s.pending }

/-- R5, R142: power is applied or RESET is released: every block in its power-up state, the retained store judged. -/
def State.powerUp (s : State) : State :=
  (s.atPowerUp { supply := true, reset := false, attn := true } s.rq.judged).refreshAttn

/-- R145, R161, R175: RESET is asserted. With the main supply present the part is held in its power-up state, with ATTN
driven; without it only the pin changes (log 7). -/
def State.holdReset (s : State) : State :=
  if s.pins.supply then s.atPowerUp { supply := true, reset := true, attn := true } s.rq.unpowered
  else { s with pins := { s.pins with reset := true } }

/-- R141: the main supply fails between events. The retained store keeps what was written; the rest is lost (log 9).
ATTN without supply is a free value (log 10). -/
def State.losePower (s : State) : State :=
  if s.pins.supply then
    let t := s.atPowerUp { supply := false, reset := s.pins.reset, attn := Config.attnUnpowered s.free } s.rq.unpowered
    { t with free := s.free + 1 }
  else s

/-- R142: VBAK is lost when it falls while the main supply is absent; while it is present the drop does not count, even if
VBAK is still below 2.2 V when the supply fails (log 27). -/
def State.loseVbak (s : State) : State :=
  if s.pins.supply then s else { s with rq := { s.rq with store := { s.rq.store with vbakHeld := false } } }

/-- POWER_UP. -/
def execPowerUp (s : State) : Result := .next s.powerUp

/-- RESET_ASSERTED. -/
def execResetAsserted (s : State) : Result := .next s.holdReset

/-- POWER_LOSS. -/
def execPowerLoss (s : State) : Result := .next s.losePower

/-- VBAK_LOST. -/
def execVbakLost (s : State) : Result := .next s.loseVbak

/-- An event of the running part: without supply or under RESET it has no effect (R161, R175, log 7). -/
def whenRunning (f : State → State) (s : State) : Result := .next (if s.running then f s else s)

end Sys2Proof.Machine
end

