-- ==== Sys2Proof/Machine/LinkEvents.lean ====
section
/-! DEFINITION. The exchange link: LINK_FRAME_RECEIVED (R164, R172), LINK_FRAME_SENT (R170), and the exchange's frames
taken: CALL_ANSWERED, CALL_CLEAR, CALL_RELEASED, CLOCK (R12, R16 to R19, R123, R167). -/

namespace Sys2Proof.Machine

/-- R164 step 3, R172: a valid frame restarts the silence timer and makes the link UP. -/
def ExchangeLink.alive (x : ExchangeLink) : ExchangeLink := { x with link := .up, silence := some silenceTime }

/-- R164 steps 7 and 8. -/
def ExchangeLink.accept (x : ExchangeLink) (m : LinkInMsg) : ExchangeLink :=
  if x.inbound.length < linkInboundRoom then { x with inbound := x.inbound ++ [m] } else x

/-- R164. -/
def ExchangeLink.receive (x : ExchangeLink) (bytes : List Byte) : ExchangeLink :=
  match judgeLink bytes with
  | .notValid => x
  | .discarded => x.alive
  | .accepted m => x.alive.accept m

def State.linkReceived (bytes : List Byte) (s : State) : State :=
  { s with xlc := s.xlc.receive bytes }.refreshAttn

/-- R170: the transmission in progress ends: of a frame whose entry was removed, or of the head, which then leaves the
queue. -/
def ExchangeLink.sent (x : ExchangeLink) : ExchangeLink :=
  match x.detached, x.outbound with
  | some f, _ => { x with detached := none, line := linkBytes f }
  | none, f :: rest => { x with outbound := rest, line := linkBytes f }
  | none, [] => x

def State.linkSent (s : State) : State := { s with xlc := s.xlc.sent }

/-- R12, R19: a CALL_ANSWERED is taken. -/
def State.takeCallAnswered (s : State) : State :=
  match s.takeLink with
  | some (.callAnswered i, s1) => (s1.answerCall i).refreshAttn
  | _ => s

/-- R17, R18, R19: the effect of a CALL_CLEAR from the exchange. -/
def State.exchangeClears (s : State) (i : StationId) (x : Byte) : State :=
  match (s.station i).state with
  | .setup | .talk => s.exchangeClear i x
  | .clearing => s.releaseCall i
  | .idle | .ready | .outOfService => s.offerLink (.callReleased i)

/-- A CALL_CLEAR is taken. -/
def State.takeCallClear (s : State) : State :=
  match s.takeLink with
  | some (.callClear i x, s1) => (s1.exchangeClears i x).refreshAttn
  | _ => s

/-- R16, R19: the effect of a CALL_RELEASED. -/
def State.exchangeReleases (s : State) (i : StationId) : State :=
  if (s.station i).state = .clearing then s.releaseCall i else s

/-- A CALL_RELEASED is taken. -/
def State.takeCallReleased (s : State) : State :=
  match s.takeLink with
  | some (.callReleased i, s1) => (s1.exchangeReleases i).refreshAttn
  | _ => s

/-- R123: a CLOCK is taken. -/
def State.takeClock (s : State) : State :=
  match s.takeLink with
  | some (.clock f, s1) => { s1 with tb := s1.tb.accept f }.refreshAttn
  | _ => s

/-- LINK_FRAME_RECEIVED. -/
def execLinkFrameReceived (bytes : List Byte) (s : State) : Result := whenRunning (State.linkReceived bytes) s
/-- LINK_FRAME_SENT. -/
def execLinkFrameSent (s : State) : Result := whenRunning State.linkSent s
/-- CALL_ANSWERED. -/
def execCallAnswered (s : State) : Result := whenRunning State.takeCallAnswered s
/-- CALL_CLEAR. -/
def execCallClear (s : State) : Result := whenRunning State.takeCallClear s
/-- CALL_RELEASED. -/
def execCallReleased (s : State) : Result := whenRunning State.takeCallReleased s
/-- CLOCK. -/
def execClock (s : State) : Result := whenRunning State.takeClock s

end Sys2Proof.Machine
end

