-- ==== Sys2Proof/Machine/Management.lean ====
section
/-! DEFINITION. The Management Unit: the twelve requests and the unknown one (R177 to R188). -/

namespace Sys2Proof.Machine

/-! ## Requests and replies -/

/-- The outcome of a request: its status, the reply's data, and the state it leaves (R177, R178). -/
structure Answer where
  status : Status
  body : ReplyBody
  state : State

/-- A request refused at steps 1 to 3 of R178: the status and no data, nothing changed. -/
def refuse (st : Status) (s : State) : Answer := ⟨st, .nothing, s⟩

/-- R177: exactly one reply is offered, with the name and the reference number of the request. -/
def Answer.send (name ref : Byte) (a : Answer) : State :=
  a.state.offerLink (.mgmtReply name ref a.status a.body)

/-- The head of the link inbound queue, a request of that name, is taken and executed, and its reply offered (R177). -/
def State.runRequest (name : Byte) (handle : List Byte → State → Answer) (s : State) : State :=
  match s.takeLink with
  | some (.mgmtRequest n ref data, s1) => if n = name then (handle data s1).send n ref else s
  | _ => s

/-- R178 step 1: the twelve names. -/
def knownName (n : Byte) : Bool := decide (1 ≤ n.toNat ∧ n.toNat ≤ 12)

/-- R178 step 1: a request with any other name is answered UNKNOWN. -/
def State.runUnknown (s : State) : State :=
  match s.takeLink with
  | some (.mgmtRequest n ref _, s1) => if knownName n then s else (refuse .unknown s1).send n ref
  | _ => s

/-! ## Pages -/

/-- R179: the page a combination of table, bank and page selects, if it is allowed. -/
def selectorOf (table bank page : Byte) : Option Selector :=
  match table.toNat, bankOf bank.toNat with
  | 1, none => if h : page.toNat < 32 then (if bank = 0 then some (.hot ⟨page.toNat, h⟩) else none) else none
  | 2, none => if bank = 0 ∧ page = 0 then some .batch else none
  | 3, some x => if h : page.toNat < 8 then some (.prefixes x ⟨page.toNat, h⟩) else none
  | 4, some x => if page = 0 then some (.bands x) else none
  | 5, some x => if page = 0 then some (.calendar x) else none
  | 6, none => if bank = 0 ∧ page = 0 then some .autobar else none
  | _, _ => none

/-- Offsets of a page (R179). -/
def Selector.offsets : Selector → Nat
  | .hot _ | .batch | .prefixes _ _ | .bands _ => 64
  | .calendar _ => 24
  | .autobar => 32

/-- The slot a page and an offset address (R179). -/
def Selector.slot (sel : Selector) (offset : Nat) : Nat :=
  match sel with
  | .hot page => page.val * 64 + offset
  | .prefixes _ page => page.val * 64 + offset
  | .batch | .bands _ | .calendar _ | .autobar => offset

/-- The pointer advances by one, and wraps from the last offset of the page (R180). -/
def Management.advance (m : Management) : Management :=
  { m with pointer := if m.pointer + 1 < m.selector.offsets then m.pointer + 1 else 0 }

def State.advancePointer (s : State) : State := { s with mu := s.mu.advance }

/-- SELECT_PAGE (R179). -/
def selectPage (data : List Byte) (s : State) : Answer :=
  match data with
  | [table, bank, page] =>
    match selectorOf table bank page with
    | some sel => ⟨.done, .nothing, { s with mu := { s.mu with selector := sel, pointer := 0 } }⟩
    | none => refuse .range s
  | _ => refuse .length s

/-! ## Writing entries -/

/-- An accepted write makes an EMPTY bank STANDBY (R104). -/
def Bank.written (b : Bank) : Bank := { b with state := if b.state = .empty then .standby else b.state }

/-- R104 step 1: the bank's entries cannot change. -/
def Bank.busy (b : Bank) : Bool := b.state == .active || b.state == .draining

/-- R104: one entry offered to bank `x`: BANK_BUSY, RANGE, DUPLICATE, or stored. -/
def State.writeBank {α : Type} (s : State) (x : BankId) (e : EntryRead α) (repeats : Bank → α → Bool)
    (store : Option α → Bank → Bank) : Status × State :=
  let b := s.bank x
  if b.busy then (.bankBusy, s)
  else
    match e with
    | .outOfRange => (.range, s)
    | .empty => (.done, s.setBank x (store none b).written)
    | .content v => if repeats b v then (.duplicate, s) else (.done, s.setBank x (store (some v) b).written)

/-- R62, R74: one HOT entry into slot `k`. -/
def State.writeHot (s : State) (k : Nat) (e : EntryRead HotRange) : Status × State :=
  let put := fun o => { s with ct := { s.ct with hot := SlotTable.write k o s.ct.hot } }
  match e with
  | .outOfRange => (.range, s)
  | .empty => (.done, put none)
  | .content h => if h.last < h.first then (.order, s) else (.done, (put (some h)).barRange h)

/-- R61: one BATCH entry into slot `k`. -/
def State.writeBatch (s : State) (k : Nat) (e : EntryRead BatchEntry) : Status × State :=
  let put := fun o => { s with ct := { s.ct with batches := SlotTable.write k o s.ct.batches } }
  match e with
  | .outOfRange => (.range, s)
  | .empty => (.done, put none)
  | .content b =>
    if SlotTable.otherHas k (fun _ c => c.batch == b.batch) s.ct.batches then (.duplicate, s) else (.done, put (some b))

/-- R181: one entry written into the slot at the pointer, judged by the block that owns the table. The AUTOBAR page is
not writable (R180). -/
def State.writeEntry (s : State) (bytes : List Byte) : Status × State :=
  let k := s.mu.selector.slot s.mu.pointer
  match s.mu.selector with
  | .hot _ => s.writeHot k (readHot bytes)
  | .batch => s.writeBatch k (readBatch bytes)
  | .prefixes x _ =>
    s.writeBank x (readPrefix bytes)
      (fun b e => SlotTable.otherHas k (fun _ f => f.digits == e.digits) b.prefixes)
      (fun o b => { b with prefixes := SlotTable.write k o b.prefixes })
  | .bands x =>
    s.writeBank x (readBand bytes) (fun _ _ => false) (fun o b => { b with bands := SlotTable.write k o b.bands })
  | .calendar x =>
    s.writeBank x (readCalendar bytes)
      (fun b e => SlotTable.otherHas k (fun j f => j / 8 == k / 8 && f.minute == e.minute) b.calendar)
      (fun o b => { b with calendar := SlotTable.write k o b.calendar })
  | .autobar => (.range, s)

/-- R180: entries written one at a time until the first refusal; the pointer advances past each one written. -/
def State.writeAll (s : State) : List (List Byte) → Nat → Answer
  | [], written => ⟨.done, .written written, s⟩
  | e :: es, written =>
    match s.writeEntry e with
    | (.done, s1) => s1.advancePointer.writeAll es (written + 1)
    | (st, s1) => ⟨st, .written written, s1⟩

/-- The request's entries, `count` of them of `size` bytes. -/
def splitEntries (size : Nat) : Nat → List Byte → List (List Byte)
  | 0, _ => []
  | n + 1, bs => bs.take size :: splitEntries size n (bs.drop size)

/-- WRITE_ENTRIES (R178 steps 2 and 3, R180). Without a count byte its length is wrong (log 22). -/
def writeEntries (data : List Byte) (s : State) : Answer :=
  match data with
  | [] => refuse .length s
  | count :: rest =>
    if rest.length ≠ count.toNat * s.mu.selector.entrySize then refuse .length s
    else if ¬(1 ≤ count.toNat ∧ count.toNat ≤ 4) then refuse .range s
    else s.writeAll (splitEntries s.mu.selector.entrySize count.toNat rest) 0

/-! ## Reading entries -/

/-- The entry at the pointer (R182). -/
def State.readEntry (s : State) : PageEntry :=
  let k := s.mu.selector.slot s.mu.pointer
  match s.mu.selector with
  | .hot _ => .hot (SlotTable.read k s.ct.hot)
  | .batch => .batch (SlotTable.read k s.ct.batches)
  | .prefixes x _ => .prefixes (SlotTable.read k (s.bank x).prefixes)
  | .bands x => .bands (SlotTable.read k (s.bank x).bands)
  | .calendar x => .calendar (SlotTable.read k (s.bank x).calendar)
  | .autobar => .autobar s.ct.autobar[k]?

/-- R182: `n` entries from the pointer on. -/
def State.readAll (s : State) : Nat → List PageEntry × State
  | 0 => ([], s)
  | n + 1 => (s.readEntry :: (s.advancePointer.readAll n).1, (s.advancePointer.readAll n).2)

/-- READ_ENTRIES (R182). -/
def readEntries (data : List Byte) (s : State) : Answer :=
  match data with
  | [count] =>
    if 1 ≤ count.toNat ∧ count.toNat ≤ 4 then
      ⟨.done, .entries (s.readAll count.toNat).1, (s.readAll count.toNat).2⟩
    else refuse .range s
  | _ => refuse .length s

/-! ## Banks, service, stations -/

/-- ACTIVATE_BANK (R115, R187). -/
def activateBank (data : List Byte) (s : State) : Answer :=
  match data with
  | [bank] =>
    match bankOf bank.toNat with
    | some x => ⟨(s.activate x).1, .nothing, (s.activate x).2⟩
    | none => refuse .range s
  | _ => refuse .length s

/-- R183: the service state becomes `v`, and the change is broadcast. -/
def State.setService (s : State) (v : Service) : State :=
  { s with mu := { s.mu with service := v } }.offerRow ⟨.broadcast, .service v, .mu⟩

/-- SET_SERVICE (R183). -/
def setService (data : List Byte) (s : State) : Answer :=
  match data with
  | [v] =>
    match serviceOf v.toNat with
    | none => refuse .range s
    | some v =>
      if v = s.mu.service then ⟨.done, .nothing, s⟩
      else if v = .opened ∧ s.activeBank = none then ⟨.invalid, .nothing, s⟩
      else ⟨.done, .nothing, s.setService v⟩
  | _ => refuse .length s

/-- R27: a station in OUT_OF_SERVICE is put into service. -/
def State.putInService (s : State) (i : StationId) : State :=
  if (s.station i).state = .outOfService then
    let s1 := s.mapStation i fun r => { r with state := .idle, outReason := none }
    { s1 with de := { s1.de with failures := s1.de.failures.set i 0 } }.tellStation i (.stationMode .into)
  else s

/-- R184: the class is written, then the mode acts. -/
def State.setMode (s : State) (i : StationId) (k : Nat) (m : Mode) : State :=
  let s1 := s.mapStation i fun r => { r with cls := k }
  match m with
  | .into => s1.putInService i
  | .out => s1.takeOut i .takenOut

/-- SET_STATION (R184). -/
def setStation (data : List Byte) (s : State) : Answer :=
  match data with
  | [station, k, mode] =>
    match stationOf station, modeOf mode.toNat with
    | some i, some m =>
      if 1 ≤ k.toNat ∧ k.toNat ≤ 3 then ⟨.done, .nothing, (s.setMode i k.toNat m).refreshAttn⟩ else refuse .range s
    | _, _ => refuse .range s
  | _ => refuse .length s

/-- R185, R95. -/
def State.stationView (s : State) (i : StationId) : StationView :=
  { station := i, state := (s.station i).state, cls := (s.station i).cls, card := (s.station i).card,
    thenOut := (s.station i).thenOut, outReason := (s.station i).outReason, failures := s.de.failures.get i,
    order := s.order i }

/-- READ_STATION (R185). -/
def readStation (data : List Byte) (s : State) : Answer :=
  match data with
  | [station] =>
    match stationOf station with
    | some i => ⟨.done, .station (s.stationView i), s⟩
    | none => refuse .range s
  | _ => refuse .length s

/-- R186. -/
def State.statusView (s : State) : StatusView :=
  { service := s.mu.service, stateA := s.ts.a.state, pinsA := s.ts.a.pins, stateB := s.ts.b.state, pinsB := s.ts.b.pins,
    link := s.xlc.link, trusted := s.tb.trusted, stored := s.rq.records.length, reservations := s.rq.reservations,
    retained := s.rq.retained, autobarCount := s.ct.autobar.length }

/-- READ_STATUS (R186). -/
def readStatus (data : List Byte) (s : State) : Answer :=
  match data with
  | [] => ⟨.done, .status s.statusView, s⟩
  | _ => refuse .length s

/-! ## Records and the auto-bar list -/

/-- FETCH_RECORD (R139). -/
def fetchRecord (data : List Byte) (s : State) : Answer :=
  match data with
  | [position] =>
    if 3 < position.toNat then refuse .range s
    else
      match s.rq.records[position.toNat]? with
      | some r => ⟨.done, .record r, s⟩
      | none => ⟨.empty, .nothing, s⟩
  | _ => refuse .length s

/-- RELEASE_RECORDS (R140). -/
def releaseRecords (data : List Byte) (s : State) : Answer :=
  match data with
  | [n0, n1, n2, n3] =>
    let q := s.rq.release (readNat [n0, n1, n2, n3])
    ⟨.done, .released (s.rq.records.length - q.records.length) q.records.length, { s with rq := q }.refreshAttn⟩
  | _ => refuse .length s

/-- R63: a serial leaves the auto-bar list, and its record's strikes become 0. -/
def CardTable.unbar (t : CardTable) (x : Serial) : CardTable :=
  { t with autobar := t.autobar.erase x, cards := changeCard x (fun r => { r with strikes := 0 }) t.cards }

/-- REMOVE_AUTOBAR (R63). -/
def removeAutobar (data : List Byte) (s : State) : Answer :=
  match data with
  | [a, b, c, d] =>
    if s.ct.autobar.contains (a ++ b ++ c ++ d) then ⟨.done, .nothing, { s with ct := s.ct.unbar (a ++ b ++ c ++ d) }⟩
    else ⟨.notFound, .nothing, s⟩
  | _ => refuse .length s

/-! ## Line restart -/

/-- R28: the context as a line restart stores it. -/
def CallContext.restarted (now : Nat) (r : StationRecord) (o : Option BurnOrder) (x : CallContext) : CallContext :=
  { x with
    endCause := some .restart
    talkDuration := talkTenths now r x
    unresolved := match o with
      | some b => some (x.unresolved.getD 0 + b.units)
      | none => x.unresolved }

/-- R28: the station record after a line restart: class and out reason kept. -/
def StationRecord.restarted (r : StationRecord) : StationRecord :=
  { r with
    state := if r.thenOut || r.state == .outOfService then .outOfService else .idle
    card := none, context := none, intervals := [], thenOut := false, answerTimer := none, releaseTimer := none,
    headTimer := none }

/-- A station holds a call: SETUP, TALK or CLEARING. -/
def StationRecord.hasCall (r : StationRecord) : Bool := r.state == .setup || r.state == .talk || r.state == .clearing

/-- R28: the record of a station's call is stored with end cause RESTART and its bank unpinned. -/
def State.storeRestart (s : State) (i : StationId) : State :=
  match (s.station i).hasCall, (s.station i).context with
  | true, some x =>
    (s.storeRecord i (CallContext.restarted s.elapsed (s.station i) (s.order i) x)).unpinBank x.bank
  | _, _ => s

/-- R28: one station's part of a line restart. -/
def State.restartStation (s : State) (i : StationId) : State :=
  (s.storeRestart i).mapStation i StationRecord.restarted

/-- R98: orders and retired tags go; failure counts and the tag counter stay. -/
def DebitEngine.restarted (d : DebitEngine) : DebitEngine := { d with orders := PerStation.fill none, retired := [] }

/-- R161: both queues are emptied and the sending side is EMPTY. -/
def RowLine.restarted (r : RowLine) : RowLine :=
  { r with inbound := [], outbound := [], sending := .empty, attempts := 0 }

/-- R175: both queues are emptied; link state and silence timer stay. -/
def ExchangeLink.restarted (x : ExchangeLink) : ExchangeLink := { x.emptyOutbound with inbound := [] }

/-- R188 steps 1 to 5. -/
def State.restartLine (s : State) : State :=
  let s1 := stationIds.foldl State.restartStation s
  { s1 with ct := { s1.ct with cards := [] }, de := s1.de.restarted, rlc := s1.rlc.restarted, xlc := s1.xlc.restarted }

/-- RESTART_LINE (R188). -/
def restartLine (data : List Byte) (s : State) : Answer :=
  match data with
  | [] => ⟨.done, .nothing, s.restartLine.refreshAttn⟩
  | _ => refuse .length s

/-! ## Meanings -/

/-- SELECT_PAGE. -/
def execSelectPage (s : State) : Result := whenRunning (State.runRequest 0x01 selectPage) s
/-- WRITE_ENTRIES. -/
def execWriteEntries (s : State) : Result := whenRunning (State.runRequest 0x02 writeEntries) s
/-- READ_ENTRIES. -/
def execReadEntries (s : State) : Result := whenRunning (State.runRequest 0x03 readEntries) s
/-- ACTIVATE_BANK. -/
def execActivateBank (s : State) : Result := whenRunning (State.runRequest 0x04 activateBank) s
/-- SET_SERVICE. -/
def execSetService (s : State) : Result := whenRunning (State.runRequest 0x05 setService) s
/-- SET_STATION. -/
def execSetStation (s : State) : Result := whenRunning (State.runRequest 0x06 setStation) s
/-- READ_STATION. -/
def execReadStation (s : State) : Result := whenRunning (State.runRequest 0x07 readStation) s
/-- READ_STATUS. -/
def execReadStatus (s : State) : Result := whenRunning (State.runRequest 0x08 readStatus) s
/-- FETCH_RECORD. -/
def execFetchRecord (s : State) : Result := whenRunning (State.runRequest 0x09 fetchRecord) s
/-- RELEASE_RECORDS. -/
def execReleaseRecords (s : State) : Result := whenRunning (State.runRequest 0x0A releaseRecords) s
/-- REMOVE_AUTOBAR. -/
def execRemoveAutobar (s : State) : Result := whenRunning (State.runRequest 0x0B removeAutobar) s
/-- RESTART_LINE. -/
def execRestartLine (s : State) : Result := whenRunning (State.runRequest 0x0C restartLine) s
/-- MGMT_REQUEST_UNKNOWN. -/
def execMgmtRequestUnknown (s : State) : Result := whenRunning State.runUnknown s

end Sys2Proof.Machine
end

