-- ==== Sys2Proof/Machine/RowEvents.lean ====
section
/-! DEFINITION. The row line: ROW_FRAME_RECEIVED (R150), LINE_FREE and RETRY (R148, R155), SPOILED_TRANSMISSION,
ACKNOWLEDGE_SLOT and BROADCAST_SENT (R156, R158); and the station frames taken: CARD_IN, CARD_OUT, NUMBER, HOOK_ON,
BURN_REPORT (R6 to R9, R84, R152). -/

namespace Sys2Proof.Machine

/-! ## Receiving -/

/-- R149: the part drives an answer symbol in the acknowledge slot. -/
def RowLine.answered (r : RowLine) (a : RowAnswer) : RowLine := { r with answer := some a.symbol }

/-- R150 steps 7 and 8: a good frame is answered BUSY when 16 frames stand in the inbound queue, or TAKEN and appended. -/
def RowLine.accept (r : RowLine) (f : RowInFrame) : RowLine :=
  if r.inbound.length < rowInboundRoom then { r.answered .taken with inbound := r.inbound ++ [f] } else r.answered .busy

/-- R150; while the RLC transmits it does not receive (R148). -/
def RowLine.receive (r : RowLine) (bytes : List Byte) : RowLine :=
  if r.sending = .sending then r
  else
    match judgeRow bytes with
    | .silent => { r with answer := none }
    | .refused => r.answered .refused
    | .accepted f => r.accept f

def State.rowReceived (bytes : List Byte) (s : State) : State := { s with rlc := s.rlc.receive bytes }

/-! ## Sending -/

/-- R155: a transmission of the head starts, and the attempt count rises. -/
def RowLine.transmit (r : RowLine) : RowLine :=
  match r.outbound with
  | [] => r
  | f :: _ => { r with sending := .sending, attempts := r.attempts + 1, line := rowBytes f }

/-- R155: the line becomes free in WAITING. -/
def State.lineFree (s : State) : State := if s.rlc.sending = .waiting then { s with rlc := s.rlc.transmit } else s

/-- R155: the line has been quiet 20 ms in RETRY. -/
def State.retryDue (s : State) : State := if s.rlc.sending = .retry then { s with rlc := s.rlc.transmit } else s

/-- R155: the head, reported, leaves the queue. -/
def RowLine.dropHead (r : RowLine) : RowLine :=
  { r with outbound := r.outbound.tail, attempts := 0, sending := if r.outbound.tail.isEmpty then .empty else .waiting }

/-- R156: the head is reported delivered: a BURN frame to the DE (R81), any other kind without further effect. The entry
has left the queue (log 15). -/
def State.headDelivered (s : State) (f : RowOutFrame) : State :=
  let s1 := { s with rlc := s.rlc.dropHead }
  match f.dest, f.msg with
  | .station i, .burn t _ _ => s1.burnDelivered i t
  | _, _ => s1

/-- R156: the head is reported undelivered. -/
def State.headUndelivered (s : State) (f : RowOutFrame) : State :=
  let s1 := { s with rlc := s.rlc.dropHead }
  match f.dest, f.msg with
  | .station i, .burn t _ _ => s1.burnUndelivered i t
  | _, _ => s1

/-- R155: a transmission ended with BUSY, silence or spoiled: RETRY below four transmissions, else undelivered. -/
def State.transmissionFailed (s : State) (f : RowOutFrame) : State :=
  if s.rlc.attempts < maxAttempts then { s with rlc := { s.rlc with sending := .retry } } else s.headUndelivered f

/-- The frame in transmission: the head in SENDING (R155). -/
def RowLine.onLine (r : RowLine) : Option RowOutFrame := if r.sending = .sending then r.outbound.head? else none

/-- R148, R156: the transmission in progress is spoiled. -/
def State.spoiled (s : State) : State :=
  match s.rlc.onLine with
  | some f => (s.transmissionFailed f).refreshAttn
  | none => s

/-- R149, R156: the slot after a transmission to a station ends; no slot follows a broadcast. -/
def State.slotEnds (heard : Option Byte) (s : State) : State :=
  match s.rlc.onLine with
  | none => s
  | some f =>
    match f.dest with
    | .broadcast => s
    | .station _ =>
      match slotAnswer heard with
      | some .taken => (s.headDelivered f).refreshAttn
      | some .refused => (s.headUndelivered f).refreshAttn
      | some .busy => (s.transmissionFailed f).refreshAttn
      | none => (s.transmissionFailed f).refreshAttn

/-- R158: a whole broadcast transmission ends, and it is reported delivered. -/
def State.broadcastEnds (s : State) : State :=
  match s.rlc.onLine with
  | none => s
  | some f =>
    match f.dest with
    | .broadcast => s.headDelivered f
    | .station _ => s

/-! ## Station frames taken -/

/-- R6: a CARD_IN is taken. -/
def State.takeCardIn (s : State) : State :=
  match s.takeRow with
  | some (⟨i, .cardIn x batch units⟩, s1) => s1.judgeCard i x batch units
  | _ => s

/-- R7: the effect of a CARD_OUT from station `i`. -/
def State.cardOut (s : State) (i : StationId) : State :=
  match (s.station i).state, (s.station i).card with
  | .ready, some _ => (s.removeCard i).mapStation i fun r => { r with state := .idle }
  | .setup, some _ => (s.removeCard i).startClear i .cardOut
  | .talk, some _ => (s.removeCard i).startClear i .cardOut
  | .clearing, some _ => s.removeCard i
  | _, _ => s

/-- R7: a CARD_OUT is taken. -/
def State.takeCardOut (s : State) : State :=
  match s.takeRow with
  | some (⟨i, .cardOut⟩, s1) => s1.cardOut i
  | _ => s

/-- R9: a NUMBER is taken. -/
def State.takeNumber (s : State) : State :=
  match s.takeRow with
  | some (⟨i, .number digits⟩, s1) => s1.judgeNumber i digits
  | _ => s

/-- R8: a HOOK_ON is taken. -/
def State.takeHookOn (s : State) : State :=
  match s.takeRow with
  | some (⟨i, .hookOn⟩, s1) => if (s1.station i).inCall then s1.startClear i .hookOn else s1
  | _ => s

/-- R84: a BURN_REPORT is taken. -/
def State.takeBurnReport (s : State) : State :=
  match s.takeRow with
  | some (⟨i, .burnReport tag burned now⟩, s1) => (s1.takeReport i tag burned now).refreshAttn
  | _ => s

/-! ## Meanings -/

/-- ROW_FRAME_RECEIVED. -/
def execRowFrameReceived (bytes : List Byte) (s : State) : Result := whenRunning (State.rowReceived bytes) s
/-- CARD_IN. -/
def execCardIn (s : State) : Result := whenRunning State.takeCardIn s
/-- CARD_OUT. -/
def execCardOut (s : State) : Result := whenRunning State.takeCardOut s
/-- NUMBER. -/
def execNumber (s : State) : Result := whenRunning State.takeNumber s
/-- HOOK_ON. -/
def execHookOn (s : State) : Result := whenRunning State.takeHookOn s
/-- BURN_REPORT. -/
def execBurnReport (s : State) : Result := whenRunning State.takeBurnReport s
/-- LINE_FREE. -/
def execLineFree (s : State) : Result := whenRunning State.lineFree s
/-- RETRY. -/
def execRetry (s : State) : Result := whenRunning State.retryDue s
/-- SPOILED_TRANSMISSION. -/
def execSpoiledTransmission (s : State) : Result := whenRunning State.spoiled s
/-- ACKNOWLEDGE_SLOT. -/
def execAcknowledgeSlot (heard : Option Byte) (s : State) : Result := whenRunning (State.slotEnds heard) s
/-- BROADCAST_SENT. -/
def execBroadcastSent (s : State) : Result := whenRunning State.broadcastEnds s

end Sys2Proof.Machine
end

