-- ==== Sys2Proof/Machine/TimerEvents.lean ====
section
/-! DEFINITION. Elapsed time and the timers: TIME_OF_DAY_TICK (R122) and the seven expiries (R13, R16, R39, R57, R87, R124,
R173). An expiry has its effect when its timer runs and has no time left (R1, log 3). -/

namespace Sys2Proof.Machine

/-- R13: the answer timer of station `i` expires in SETUP. -/
def State.answerExpires (i : StationId) (s : State) : State :=
  if (s.station i).state = .setup ∧ timerDue (s.station i).answerTimer then s.startClear i .noAnswer else s

/-- R16: the release timer of station `i` expires in CLEARING. -/
def State.releaseExpires (i : StationId) (s : State) : State :=
  if (s.station i).state = .clearing ∧ timerDue (s.station i).releaseTimer then (s.releaseCall i).refreshAttn else s

/-- R39: the head interval timer of station `i` expires in TALK. -/
def State.headExpires (i : StationId) (s : State) : State :=
  match (s.station i).state, (s.station i).context, timerDue (s.station i).headTimer with
  | .talk, some x, true => (s.headExpired i x).refreshAttn
  | _, _, _ => s

/-- R87: the reply timer of the order of station `i` expires. -/
def State.replyExpires (i : StationId) (s : State) : State :=
  match s.order i with
  | some o => if o.state = .awaiting 0 then (s.takeOutcome i o .timedOut).refreshAttn else s
  | none => s

/-- R57: the remember timer of the record of a serial expires, and the record is deleted. -/
def State.rememberExpires (x : Serial) (s : State) : State :=
  match s.ct.find x with
  | some r => if r.state = .remembered 0 then s.withCards (dropCard x s.ct.cards) else s
  | none => s

/-- R173: the link becomes DOWN and its outbound queue is emptied. -/
def ExchangeLink.goDown (x : ExchangeLink) : ExchangeLink := { x.emptyOutbound with link := .down, silence := none }

/-- R173, R23: the silence timer expires: the link is DOWN, then every station acts in ascending order. -/
def State.silenceExpires (s : State) : State :=
  if s.xlc.link = .up ∧ timerDue s.xlc.silence then
    (stationIds.foldl State.linkDownStation { s with xlc := s.xlc.goDown }).refreshAttn
  else s

/-- R124: the untrust timer expires. -/
def State.untrustExpires (s : State) : State :=
  if timerDue s.tb.untrust then { s with tb := { s.tb with trusted := false, untrust := none } }.refreshAttn else s

/-- A tenth of a second passes on a station's timers. -/
def StationRecord.tick (r : StationRecord) : StationRecord :=
  { r with answerTimer := tickTimer r.answerTimer, releaseTimer := tickTimer r.releaseTimer,
           headTimer := tickTimer r.headTimer }

/-- A tenth of a second passes on a reply timer. -/
def BurnOrder.tick (o : BurnOrder) : BurnOrder :=
  { o with state := match o.state with
      | .sending => .sending
      | .awaiting n => .awaiting (n - 1) }

/-- A tenth of a second passes on a remember timer. -/
def CardRecord.tick (r : CardRecord) : CardRecord :=
  { r with state := match r.state with
      | .active i => .active i
      | .remembered n => .remembered (n - 1) }

/-- R122, R129: a tenth of a second of elapsed time: every running timer counts down, and the clock advances. -/
def State.tick (s : State) : State :=
  { s with
    elapsed := s.elapsed + 1
    cc := s.cc.map StationRecord.tick
    de := { s.de with orders := s.de.orders.map (Option.map BurnOrder.tick) }
    ct := { s.ct with cards := s.ct.cards.map CardRecord.tick }
    xlc := { s.xlc with silence := tickTimer s.xlc.silence }
    tb := { s.tb.advance with untrust := tickTimer s.tb.untrust } }

/-- ANSWER_TIMER_EXPIRY. -/
def execAnswerTimerExpiry (i : StationId) (s : State) : Result := whenRunning (State.answerExpires i) s
/-- RELEASE_TIMER_EXPIRY. -/
def execReleaseTimerExpiry (i : StationId) (s : State) : Result := whenRunning (State.releaseExpires i) s
/-- HEAD_INTERVAL_EXPIRY. -/
def execHeadIntervalExpiry (i : StationId) (s : State) : Result := whenRunning (State.headExpires i) s
/-- REPLY_TIMER_EXPIRY. -/
def execReplyTimerExpiry (i : StationId) (s : State) : Result := whenRunning (State.replyExpires i) s
/-- REMEMBER_TIMER_EXPIRY. -/
def execRememberTimerExpiry (x : Serial) (s : State) : Result := whenRunning (State.rememberExpires x) s
/-- SILENCE_TIMER_EXPIRY. -/
def execSilenceTimerExpiry (s : State) : Result := whenRunning State.silenceExpires s
/-- UNTRUST_TIMER_EXPIRY. -/
def execUntrustTimerExpiry (s : State) : Result := whenRunning State.untrustExpires s
/-- TIME_OF_DAY_TICK. -/
def execTimeOfDayTick (s : State) : Result := whenRunning State.tick s

end Sys2Proof.Machine
end

