-- ==== Sys2Proof/Machine/Dispatch.lean ====
section
/-! DEFINITION. One arm per command. -/

namespace Sys2Proof.Machine

def exec (i : Instr) (s : State) : Host.Outcome State Fault Refusal :=
  match i with
  | .powerUp => Sys2Proof.Machine.execPowerUp s
  | .resetAsserted => Sys2Proof.Machine.execResetAsserted s
  | .powerLoss => Sys2Proof.Machine.execPowerLoss s
  | .vbakLost => Sys2Proof.Machine.execVbakLost s
  | .rowFrameReceived bytes => Sys2Proof.Machine.execRowFrameReceived bytes s
  | .cardIn => Sys2Proof.Machine.execCardIn s
  | .cardOut => Sys2Proof.Machine.execCardOut s
  | .number => Sys2Proof.Machine.execNumber s
  | .hookOn => Sys2Proof.Machine.execHookOn s
  | .burnReport => Sys2Proof.Machine.execBurnReport s
  | .lineFree => Sys2Proof.Machine.execLineFree s
  | .retry => Sys2Proof.Machine.execRetry s
  | .spoiledTransmission => Sys2Proof.Machine.execSpoiledTransmission s
  | .acknowledgeSlot heard => Sys2Proof.Machine.execAcknowledgeSlot heard s
  | .broadcastSent => Sys2Proof.Machine.execBroadcastSent s
  | .linkFrameReceived bytes => Sys2Proof.Machine.execLinkFrameReceived bytes s
  | .callAnswered => Sys2Proof.Machine.execCallAnswered s
  | .callClear => Sys2Proof.Machine.execCallClear s
  | .callReleased => Sys2Proof.Machine.execCallReleased s
  | .clock => Sys2Proof.Machine.execClock s
  | .linkFrameSent => Sys2Proof.Machine.execLinkFrameSent s
  | .selectPage => Sys2Proof.Machine.execSelectPage s
  | .writeEntries => Sys2Proof.Machine.execWriteEntries s
  | .readEntries => Sys2Proof.Machine.execReadEntries s
  | .activateBank => Sys2Proof.Machine.execActivateBank s
  | .setService => Sys2Proof.Machine.execSetService s
  | .setStation => Sys2Proof.Machine.execSetStation s
  | .readStation => Sys2Proof.Machine.execReadStation s
  | .readStatus => Sys2Proof.Machine.execReadStatus s
  | .fetchRecord => Sys2Proof.Machine.execFetchRecord s
  | .releaseRecords => Sys2Proof.Machine.execReleaseRecords s
  | .removeAutobar => Sys2Proof.Machine.execRemoveAutobar s
  | .restartLine => Sys2Proof.Machine.execRestartLine s
  | .mgmtRequestUnknown => Sys2Proof.Machine.execMgmtRequestUnknown s
  | .answerTimerExpiry station => Sys2Proof.Machine.execAnswerTimerExpiry station s
  | .releaseTimerExpiry station => Sys2Proof.Machine.execReleaseTimerExpiry station s
  | .headIntervalExpiry station => Sys2Proof.Machine.execHeadIntervalExpiry station s
  | .replyTimerExpiry station => Sys2Proof.Machine.execReplyTimerExpiry station s
  | .rememberTimerExpiry serial => Sys2Proof.Machine.execRememberTimerExpiry serial s
  | .silenceTimerExpiry => Sys2Proof.Machine.execSilenceTimerExpiry s
  | .untrustTimerExpiry => Sys2Proof.Machine.execUntrustTimerExpiry s
  | .timeOfDayTick => Sys2Proof.Machine.execTimeOfDayTick s

end Sys2Proof.Machine
end

