-- ==== Sys2Proof/Safety.lean ====
section
/-! DEFINITION. What stays true of the BF4850 between events, from the rules that say so: the words in which the
obligations of Certificates/Slice0 are stated. -/

namespace Sys2Proof.Machine

/-! ## Line and link -/

/-- R151, R154, R165, R169: no queue holds more than its room. -/
def State.QueuesFit (s : State) : Prop :=
  s.rlc.inbound.length ≤ rowInboundRoom ∧ s.rlc.outbound.length ≤ rowOutboundRoom ∧
  s.xlc.inbound.length ≤ linkInboundRoom ∧ s.xlc.outbound.length ≤ linkOutboundRoom

/-- R155: the state of the sending side, the outbound queue and the attempt count agree. -/
def RowLine.Agrees (r : RowLine) : Prop :=
  match r.sending with
  | .empty => r.outbound = [] ∧ r.attempts = 0
  | .waiting => r.outbound ≠ [] ∧ r.attempts = 0
  | .sending => r.outbound ≠ [] ∧ 1 ≤ r.attempts ∧ r.attempts ≤ maxAttempts
  | .retry => r.outbound ≠ [] ∧ 1 ≤ r.attempts ∧ r.attempts < maxAttempts

/-- R171, R169: the silence timer runs while the link is UP; while it is DOWN nothing is queued. -/
def ExchangeLink.Agrees (x : ExchangeLink) : Prop :=
  match x.link with
  | .up => x.silence.isSome = true
  | .down => x.silence = none ∧ x.outbound = []

/-- The queues, the sending side and the link state agree. -/
def State.LinesAgree (s : State) : Prop := s.QueuesFit ∧ s.rlc.Agrees ∧ s.xlc.Agrees

/-! ## Power -/

/-- R161, R175, log 7: without supply or under RESET every block but the retained store is at its power-up values. -/
def State.HeldAtPowerUp (s : State) : Prop := s.running = false → s.atPowerUp s.pins s.rq.unpowered = s

/-! ## Clock, ATTN and retained store -/

/-- R121: the ranges of the clock, and the untrust timer running only while trusted is set. -/
def TimeBase.Legal (b : TimeBase) : Prop :=
  (b.date = Date.zero ∨ b.date.real = true) ∧
  b.time.hour ≤ 23 ∧ b.time.minute ≤ 59 ∧ b.time.second ≤ 59 ∧ b.time.tenth ≤ 9 ∧
  b.trusted = b.untrust.isSome

/-- R144, R145: with the main supply, ATTN is driven under RESET and while one of the four conditions of R144 holds, and only
then. -/
def State.AttnRight (s : State) : Prop :=
  s.pins.supply = true →
    (s.pins.attn = true ↔
      s.pins.reset = true ∨ 384 ≤ s.rq.records.length ∨ s.xlc.link = .down ∨ s.tb.trusted = false ∨
        ∃ i : StationId, (s.station i).state = .outOfService ∧ (s.station i).outReason = some .stationFault)

/-- R141: while the part runs, the retained store holds the queue and the next record number, under a good check. -/
def State.StoreCurrent (s : State) : Prop :=
  s.running = true →
    s.rq.store = { records := s.rq.records, nextNumber := s.rq.nextNumber, checkAgrees := true, vbakHeld := true }

/-- Power, ATTN and the retained store. -/
def State.PowerRight (s : State) : Prop := s.HeldAtPowerUp ∧ s.AttnRight ∧ s.StoreCurrent

/-- A record number (R134). -/
def RecordNumber (n : Nat) : Prop := 1 ≤ n ∧ n ≤ lastRecordNumber

/-- R134: the next record number and the numbers of the records, in the queue and in the retained store. -/
def RecordQueue.Numbered (q : RecordQueue) : Prop :=
  RecordNumber q.nextNumber ∧ (∀ r ∈ q.records, RecordNumber r.number) ∧
  RecordNumber q.store.nextNumber ∧ ∀ r ∈ q.store.records, RecordNumber r.number

/-! ## Tables -/

/-- The pointer stands inside the selected page (R180). -/
def Management.Inside (m : Management) : Prop := m.pointer < m.selector.offsets

/-- Log 21: the slot tables are canonical (slots strictly rising and inside the table, R61, R62, R99). -/
def Bank.Canonical (b : Bank) : Prop :=
  SlotTable.wf 512 b.prefixes = true ∧ SlotTable.wf 64 b.bands = true ∧ SlotTable.wf 24 b.calendar = true

/-- Every slot table is canonical and the pointer stands inside its page. -/
def State.TablesCanonical (s : State) : Prop :=
  s.mu.Inside ∧ SlotTable.wf 2048 s.ct.hot = true ∧ SlotTable.wf 64 s.ct.batches = true ∧
  s.ts.a.Canonical ∧ s.ts.b.Canonical

/-- R61, R62, R106, R109, R111: what an entry holds is in range. -/
def HotRange.InRange (h : HotRange) : Prop := h.code ≠ 0 ∧ h.first ≤ h.last
def BatchEntry.InRange (e : BatchEntry) : Prop := 1 ≤ e.batch ∧ e.batch ≤ 65535 ∧ 1 ≤ e.face ∧ e.face ≤ 9999
def PrefixEntry.InRange (e : PrefixEntry) : Prop := 1 ≤ e.digits.length ∧ e.digits.length ≤ 10
def BandEntry.InRange (e : BandEntry) : Prop :=
  10 ≤ e.length ∧ e.length ≤ 6000 ∧ 1 ≤ e.units ∧ e.units ≤ 50 ∧ e.setup ≤ 50
def CalendarSlot.InRange (c : CalendarSlot) : Prop := c.minute ≤ 1439

/-- R104, R106, R109, R111: the entries of a bank are in range, and no key stands twice. -/
def Bank.EntriesLegal (b : Bank) : Prop :=
  (∀ e ∈ b.prefixes, e.2.InRange) ∧ (∀ e ∈ b.bands, e.2.InRange) ∧ (∀ e ∈ b.calendar, e.2.InRange) ∧
  (b.prefixes.map fun e => e.2.digits).Nodup ∧ (b.calendar.map fun e => (e.1 / 8, e.2.minute)).Nodup

/-- The tables are canonical, every entry is in range, and no key stands twice (R61, R62, R104). -/
def State.TablesLegal (s : State) : Prop :=
  s.TablesCanonical ∧
  (∀ e ∈ s.ct.hot, e.2.InRange) ∧ (∀ e ∈ s.ct.batches, e.2.InRange) ∧
  (s.ct.batches.map fun e => e.2.batch).Nodup ∧ s.ts.a.EntriesLegal ∧ s.ts.b.EntriesLegal

/-! ## Banks -/

/-- R101: at most one bank is ACTIVE, and a bank is DRAINING only while the other is ACTIVE. -/
def TariffStore.PairLegal (t : TariffStore) : Prop :=
  ¬(t.a.state = .active ∧ t.b.state = .active) ∧ (t.a.state = .draining → t.b.state = .active) ∧
  (t.b.state = .draining → t.a.state = .active)

/-- R101, R103, R114: an EMPTY or STANDBY bank holds no pin, a DRAINING bank holds one, and a bank in use has passed
validation. -/
def Bank.StateFits (b : Bank) : Prop :=
  match b.state with
  | .empty => b.pins = 0
  | .standby => b.pins = 0
  | .active => b.passes = true
  | .draining => 0 < b.pins ∧ b.passes = true

/-- R101, R114, R10: the banks, and the service state that needs one of them ACTIVE. -/
def State.BanksLegal (s : State) : Prop :=
  s.ts.PairLegal ∧ s.ts.a.StateFits ∧ s.ts.b.StateFits ∧ (s.mu.service = .opened → s.activeBank ≠ none)

/-! ## Stations -/

/-- No timer of the station runs. -/
def StationRecord.Untimed (r : StationRecord) : Prop :=
  r.answerTimer = none ∧ r.releaseTimer = none ∧ r.headTimer = none

/-- A station that holds no call (R4): no context, no list, no timer, no order, then_out clear. -/
def StationRecord.Callless (r : StationRecord) (o : Option BurnOrder) : Prop :=
  r.context = none ∧ r.intervals = [] ∧ r.Untimed ∧ o = none ∧ r.thenOut = false

/-- R4, R30, R31, R33: a connected call, FREE or CHARGED. -/
def StationRecord.Connected (r : StationRecord) (o : Option BurnOrder) (x : CallContext) : Prop :=
  match x.kind with
  | .free => r.intervals = [] ∧ r.headTimer = none ∧ o = none
  | .charged _ => 1 ≤ r.intervals.length ∧ r.intervals.length ≤ 4 ∧ r.headTimer.isSome = true ∧ r.card.isSome = true

/-- R4, R16, R20: a call being cleared. -/
def StationRecord.Clearing (r : StationRecord) (o : Option BurnOrder) (x : CallContext) : Prop :=
  r.intervals = [] ∧ r.answerTimer = none ∧ r.headTimer = none ∧ r.releaseTimer.isSome = !x.released ∧
  x.orderResolved = some o.isNone ∧ ¬(x.released = true ∧ o = none) ∧ r.thenOut = r.outReason.isSome ∧
  x.endCause.isSome = true

/-- R4: what a station record holds in each state, `o` being the DE's order for it. -/
def StationRecord.Holds (r : StationRecord) (o : Option BurnOrder) : Prop :=
  match r.state, r.context with
  | .idle, _ => r.card = none ∧ r.Callless o ∧ r.outReason = none
  | .ready, _ => r.card.isSome = true ∧ r.Callless o ∧ r.outReason = none
  | .outOfService, _ => r.card = none ∧ r.Callless o ∧ r.outReason.isSome = true
  | .setup, some x =>
    r.intervals = [] ∧ r.answerTimer.isSome = true ∧ r.releaseTimer = none ∧ r.headTimer = none ∧ o = none ∧
    r.thenOut = false ∧ r.outReason = none ∧ x.talkDuration = none ∧ (x.kind ≠ .free → r.card.isSome = true)
  | .talk, some x =>
    r.Connected o x ∧ r.answerTimer = none ∧ r.releaseTimer = none ∧ r.thenOut = false ∧ r.outReason = none ∧
    x.answerMark.isSome = true ∧ x.talkDuration = none
  | .clearing, some x => r.Clearing o x
  | .setup, none => False
  | .talk, none => False
  | .clearing, none => False

/-- R2, R4: every station record has a class 1 to 3 and holds what its state allows. -/
def State.StationsHold (s : State) : Prop :=
  ∀ i : StationId, (1 ≤ (s.station i).cls ∧ (s.station i).cls ≤ 3) ∧ (s.station i).Holds (s.order i)

/-- The station's context names bank `x`. -/
def StationRecord.pinnedTo (r : StationRecord) (x : BankId) : Bool :=
  match r.context with
  | some c => c.bank == x
  | none => false

/-- R99, R101: the pin count of a bank is the number of stations whose context names it. -/
def State.PinsCounted (s : State) (x : BankId) : Prop :=
  (s.bank x).pins = s.cc.values.countP (StationRecord.pinnedTo · x)

/-- R135, R136: the reservations are the stations with a call, and with the stored records they are at most 512. -/
def State.PlacesCounted (s : State) : Prop :=
  s.rq.reservations = s.cc.values.countP (·.context.isSome) ∧
  s.rq.records.length + s.rq.reservations ≤ recordRoom ∧ s.rq.store.records.length ≤ recordRoom

/-- R4, R99, R135: holdings, pins and reservations. -/
def State.CallsCounted (s : State) : Prop :=
  s.StationsHold ∧ s.PinsCounted .a ∧ s.PinsCounted .b ∧ s.PlacesCounted

/-! ## Cards -/

/-- R54: no serial in two records; an ACTIVE record and the station it is at name each other; a station in IDLE or
OUT_OF_SERVICE names no card and a station in READY names one. -/
def State.CardsAgree (s : State) : Prop :=
  (s.ct.cards.map CardRecord.serial).Nodup ∧
  (∀ r ∈ s.ct.cards, ∀ i : StationId, r.state = .active i → (s.station i).card = some r.serial) ∧
  (∀ i : StationId, ∀ x, (s.station i).card = some x → ∃ r ∈ s.ct.cards, r.serial = x ∧ r.state = .active i) ∧
  ∀ i : StationId,
    ((s.station i).state = .idle ∨ (s.station i).state = .outOfService → (s.station i).card = none) ∧
    ((s.station i).state = .ready → (s.station i).card.isSome = true)

/-- R54: besides, the card table holds at most 96 records. -/
def State.CardsFit (s : State) : Prop := s.CardsAgree ∧ s.ct.cards.length ≤ cardTableRoom

/-- R53: the ranges of a card record. -/
def CardRecord.InRange (r : CardRecord) : Prop :=
  (1 ≤ r.batch ∧ r.batch ≤ 65535) ∧ r.confirmed ≤ 9999 ∧ r.uncertainLow.getD 0 ≤ r.confirmed ∧ r.strikes ≤ thirdStrike

/-- R73, R63: no ACTIVE record has a serial in a hot-list range or in the auto-bar list, which holds at most 32 serials
and none twice. -/
def State.NoBarredCardInUse (s : State) : Prop :=
  s.CardsAgree ∧ s.ct.autobar.Nodup ∧ s.ct.autobar.length ≤ autobarRoom ∧
  ∀ r ∈ s.ct.cards, r.isRemembered = false → s.ct.barCode r.serial = none

/-! ## Orders -/

/-- The station and tag of each BURN frame in the row outbound queue. -/
def RowLine.burnPairs (r : RowLine) : List (StationId × Nat) :=
  r.outbound.filterMap fun f =>
    match f.dest, f.msg with
    | .station i, .burn t _ _ => some (i, t)
    | _, _ => none

/-- The station and tag of each order in SENDING. -/
def State.sendingPairs (s : State) : List (StationId × Nat) :=
  stationIds.filterMap fun i =>
    match s.order i with
    | some o => if o.state = .sending then some (i, o.tag) else none
    | none => none

/-- The tags of the orders the DE holds. -/
def DebitEngine.heldTags (d : DebitEngine) : List Nat := (d.orders.values.filterMap id).map BurnOrder.tag

/-- R78, R20: the DE holds an order only for a station in TALK, or in CLEARING with order resolved not true. -/
def State.OrdersInCalls (s : State) : Prop :=
  ∀ i : StationId, s.order i ≠ none →
    (s.station i).state = .talk ∨
      ((s.station i).state = .clearing ∧ (s.station i).context.map (·.orderResolved) ≠ some (some true))

/-- R78, R79, R85: orders are held in calls only; the BURN frames queued are those of the SENDING orders and of the retired
pairs; the tags held or retired are distinct; and every tag is 1 to 255. -/
def State.TagsLegal (s : State) : Prop :=
  s.OrdersInCalls ∧ s.rlc.burnPairs.Perm (s.sendingPairs ++ s.de.retired) ∧ s.rlc.outbound.length ≤ rowOutboundRoom ∧
  (s.de.heldTags ++ s.de.retired.map Prod.snd).Nodup ∧ (1 ≤ s.de.tagCounter ∧ s.de.tagCounter ≤ 255) ∧
  ∀ t ∈ s.de.heldTags ++ s.de.retired.map Prod.snd, 1 ≤ t ∧ t ≤ 255

/-! ## Ranges -/

/-- R53, R61, R92, R121, R134: card records, batch entries, failure counts, the clock and record numbers. -/
def State.NumbersLegal (s : State) : Prop :=
  (∀ r ∈ s.ct.cards, r.InRange) ∧ (∀ e ∈ s.ct.batches, e.2.InRange) ∧
  (∀ n ∈ s.de.failures.values, n ≤ faultCount) ∧ s.tb.Legal ∧ s.rq.Numbered

/-! ## Words for statements -/

/-- A command that acts whether or not the part runs. -/
def ofPower : Instr → Bool
  | .powerUp | .resetAsserted | .powerLoss | .vbakLost => true
  | _ => false

/-- A step that answers `next` keeps `p`. -/
def Kept (p : State → Prop) : Prop := ∀ s t : State, p s → step s = .next t → p t

/-- The head of the row inbound queue has been taken, and `rest` is left (R152). -/
def State.rowTaken (s : State) (rest : List RowInFrame) : State := { s with rlc := { s.rlc with inbound := rest } }

/-- The head of the link inbound queue has been taken, and `rest` is left (R165). -/
def State.linkTaken (s : State) (rest : List LinkInMsg) : State := { s with xlc := { s.xlc with inbound := rest } }

/-- The head of the row outbound queue has been reported and has left it, and `rest` is left (R155). -/
def RowLine.reported (r : RowLine) (rest : List RowOutFrame) : RowLine :=
  { r with outbound := rest, attempts := 0, sending := if rest.isEmpty then .empty else .waiting }

/-- A number in a field of two bytes, most significant first (R190). -/
def twoBytes (n : Nat) : List Byte := [code (n / 256), code n]

/-- A number in a field of four bytes, most significant first (R190). -/
def fourBytes (n : Nat) : List Byte := [code (n / 16777216), code (n / 65536), code (n / 256), code n]

/-- End causes and their codes (11.4), but for EXCHANGE_CLEAR 03h, which carries a byte of its own. -/
def endCauseCodes : List (EndCause × Byte) :=
  [(.hookOn, 0x01), (.cardOut, 0x02), (.noAnswer, 0x04), (.noUnits, 0x05), (.exhausted, 0x06), (.burnLate, 0x07),
    (.burnShort, 0x08), (.burnFailed, 0x09), (.barredCard, 0x0A), (.stationFault, 0x0B), (.takenOut, 0x0C), (.linkDown, 0x0D),
    (.restart, 0x0E)]

/-- Card refusal reasons and their codes (11.4), but for BARRED 08h, which carries a reason code. -/
def cardRefusalCodes : List (CardRefusal × Byte) :=
  [(.stationBusy, 0x01), (.outOfService, 0x02), (.closed, 0x03), (.unknownBatch, 0x04), (.withdrawn, 0x05), (.overFace, 0x06),
    (.empty, 0x07), (.inUse, 0x09), (.unitsRose, 0x0A)]

/-- Call refusal reasons and their codes (11.4). -/
def callRefusalCodes : List (CallRefusal × Byte) :=
  [(.outOfService, 0x01), (.busy, 0x02), (.closed, 0x03), (.linkDown, 0x04), (.noTariff, 0x05), (.barredNumber, 0x06),
    (.noCard, 0x07), (.noUnits, 0x08), (.recordsFull, 0x09), (.linkCongested, 0x0A)]

/-- Reply statuses and their codes (11.4). -/
def statusCodes : List (Status × Byte) :=
  [(.done, 0x00), (.range, 0x01), (.bankBusy, 0x02), (.invalid, 0x03), (.duplicate, 0x04), (.order, 0x05), (.unknown, 0x06),
    (.length, 0x07), (.notFound, 0x08), (.empty, 0x09)]

/-- The numbers of a call record fit their fields in 11.5. -/
def CallRecord.Fits (r : CallRecord) : Prop :=
  r.number < 4294967296 ∧ r.talkDuration < 4294967296 ∧ r.intervalsBegun < 65536 ∧ r.unitsBurned < 65536 ∧
  r.unresolved.getD 0 < 65536 ∧ ∀ x batch, r.card = some (x, batch) → batch < 65536

/-- Of the byte strings of `size`, `read` takes as content exactly the layout of an entry that is `ok`, behind use byte 01h; one
with use byte 00h is empty; every other is out of range (R190). -/
def ReadsExactly {α : Type} (size : Nat) (read : List Byte → EntryRead α) (ok : α → Prop) (layout : α → List Byte) : Prop :=
  ∀ bytes : List Byte, bytes.length = size →
    (∀ e, read bytes = .content e ↔ ok e ∧ bytes = 0x01 :: layout e) ∧
    (read bytes = .empty ↔ bytes.head? = some 0x00) ∧
    (read bytes = .outOfRange ↔ bytes.head? ≠ some 0x00 ∧ ∀ e, ok e → bytes ≠ 0x01 :: layout e)

/-- Kind and data of a station's frame on the line (11.2). -/
def RowInMsg.wire : RowInMsg → Byte × List Byte
  | .cardIn x batch units => (0x01, lowBytes 4 x.toNat ++ lowBytes 2 batch ++ lowBytes 2 units)
  | .cardOut => (0x02, [])
  | .number digits => (0x03, digitString digits)
  | .hookOn => (0x04, [])
  | .burnReport tag burned now => (0x05, lowBytes 1 tag ++ lowBytes 2 burned ++ lowBytes 2 now)

/-- What the fields of a station's frame can hold, and 1 to 16 digits in a NUMBER (R159). -/
def RowInMsg.Fits : RowInMsg → Prop
  | .cardIn _ batch units => batch < 65536 ∧ units < 65536
  | .number digits => 1 ≤ digits.length ∧ digits.length ≤ 16
  | .burnReport tag burned now => tag < 256 ∧ burned < 65536 ∧ now < 65536
  | .cardOut => True
  | .hookOn => True

/-- Kind, station field and data of an exchange's frame on the link (11.2). -/
def LinkInMsg.wire : LinkInMsg → Byte × Byte × List Byte
  | .callAnswered i => (0x24, code (i.val + 1), [])
  | .callClear i x => (0x22, code (i.val + 1), [x])
  | .callReleased i => (0x23, code (i.val + 1), [])
  | .clock c => (0x25, 0, [c.year, c.month, c.day, c.dayType, c.hour, c.minute, c.second])
  | .mgmtRequest name ref data => (0x26, 0, name :: ref :: data)

/-- A whole row frame: header, data and check byte (R147). -/
def rowFrame (origin dest kind : Byte) (data : List Byte) (check : Byte) : List Byte :=
  [origin, dest, kind, code data.length] ++ data ++ [check]

/-- A whole link frame: header, data and check value, high byte first (R163). -/
def linkFrame (kind station : Byte) (data : List Byte) (high low : Byte) : List Byte :=
  [kind, station, code data.length] ++ data ++ [high, low]

end Sys2Proof.Machine
end

