-- ==== Sys2Proof/Certificates/Slice0/Obligations.lean ====
section
/-! DEFINITION. The statements for the provers. `s.rowTaken rest` and `s.linkTaken rest` are `s` with the head of an inbound
queue taken; an equation `t = { s with … := t.… }` is the frame: every other block is as it was. -/

section
open Sys2Proof Sys2Proof.Machine

/-! ## The machine -/

/-- A step runs the command at the front of the queue; on an empty queue the part idles (log 5). -/
def Obligations.StepRunsTheFrontCommand : Prop :=
  (∀ (s : State) (c : Instr) (rest : List Instr), s.pending = c :: rest → step s = exec c { s with pending := rest }) ∧
  ∀ s : State, s.pending = [] → step s = .next s

/-- Every command answers a next state, whatever the state, and leaves the commands that wait alone (log 2). -/
def Obligations.EveryCommandAnswersNext : Prop :=
  ∀ (c : Instr) (s : State), ∃ t, exec c s = .next t ∧ t.pending = s.pending

/-! ## Power -/

/-- R145, R161, R175: RESET holds the part in its power-up state with ATTN driven, the retained store kept; and an event
that reaches a part held so, or a part without supply, has no effect (log 7, log 9). -/
def Obligations.ResetHoldsThePart : Prop :=
  (∀ s : State, s.pins.supply = true → exec .resetAsserted s = .next
    { State.reset with
      pins := { supply := true, reset := true, attn := true },
      rq := { records := [], nextNumber := 1, reservations := 0, retained := s.rq.retained, store := s.rq.store },
      free := s.free, pending := s.pending }) ∧
  (∀ s : State, s.pins.supply = false → exec .resetAsserted s = .next { s with pins := { s.pins with reset := true } }) ∧
  ∀ (c : Instr) (s : State), s.running = false → ofPower c = false → exec c s = .next s

/-- R5, R54, R61 to R63, R78, R79, R85, R92, R99, R121, R135, R142, R145, R151, R154, R155, R165, R171, R179, R183: the
state a power-up leaves, of a running part too (log 8). -/
def Obligations.PowerUpState : Prop :=
  ∀ s : State, ∃ t, exec .powerUp s = .next t ∧
    t.pins = { supply := true, reset := false, attn := true } ∧
    (∀ i : StationId,
      t.station i = {
        state := .idle, card := none, cls := 1, context := none, intervals := [], thenOut := false,
        outReason := none, answerTimer := none, releaseTimer := none, headTimer := none } ∧
      t.order i = none ∧ t.de.failures.get i = 0) ∧
    t.de.tagCounter = 1 ∧ t.de.retired = [] ∧
    t.ct = { cards := [], batches := [], hot := [], autobar := [] } ∧
    (∀ x : BankId, t.bank x = { state := .empty, pins := 0, prefixes := [], bands := [], calendar := [] }) ∧
    t.tb = {
      date := Date.zero, dayType := .weekday, time := { hour := 0, minute := 0, second := 0, tenth := 0 },
      trusted := false, untrust := none } ∧
    t.mu = { selector := .hot 0, pointer := 0, service := .closed } ∧
    (t.rlc.inbound = [] ∧ t.rlc.outbound = [] ∧ t.rlc.sending = .empty ∧ t.rlc.attempts = 0) ∧
    (t.xlc.inbound = [] ∧ t.xlc.outbound = [] ∧ t.xlc.link = .down ∧ t.xlc.silence = none) ∧
    t.rq.reservations = 0 ∧
    if s.rq.store.vbakHeld = true ∧ s.rq.store.checkAgrees = true then
      t.rq.records = s.rq.store.records ∧ t.rq.nextNumber = s.rq.store.nextNumber ∧ t.rq.retained = true
    else t.rq.records = [] ∧ t.rq.nextNumber = 1 ∧ t.rq.retained = false

/-- R141, R142: a loss of the main supply keeps the records when VBAK holds, and a loss of VBAK while the supply is absent
empties them; a drop of VBAK under supply does not count, even if VBAK has stayed low when the supply fails (log 27). -/
def Obligations.RecordsAcrossPowerLoss : Prop :=
  (∀ s : State, s.running = true → s.StoreCurrent → ∃ t, exec .powerLoss s = .next t ∧ t.pins.supply = false ∧
    (∃ u, exec .powerUp t = .next u ∧ u.rq = { s.rq with reservations := 0, retained := true }) ∧
    ∃ v u, exec .vbakLost t = .next v ∧ v = { t with rq := { t.rq with store := { t.rq.store with vbakHeld := false } } } ∧
      exec .powerUp v = .next u ∧ u.rq.records = [] ∧ u.rq.nextNumber = 1 ∧ u.rq.reservations = 0 ∧ u.rq.retained = false) ∧
  ∀ s : State, s.pins.supply = true → exec .vbakLost s = .next s

/-! ## The row line -/

/-- R150, R149: the steps in order, the answer being the byte of 11.2 in `rlc.answer`, none for silence (log 17). A frame
heard while the RLC transmits is not received, and the last answer stays shown (R148, log 25); bytes beyond the end of the
frame they spell make it broken (log 23). -/
def Obligations.RowFrameJudged : Prop :=
  ∀ s : State, s.running = true →
    (s.rlc.sending = .sending → ∀ bytes, exec (.rowFrameReceived bytes) s = .next s) ∧
    (s.rlc.sending ≠ .sending →
      (∀ bytes, (¬∃ origin dest kind data check, data.length ≤ 20 ∧ bytes = rowFrame origin dest kind data check) →
        exec (.rowFrameReceived bytes) s = .next { s with rlc := { s.rlc with answer := none } }) ∧
      ∀ (origin dest kind : Byte) (data : List Byte) (check : Byte), data.length ≤ 20 →
        exec (.rowFrameReceived (rowFrame origin dest kind data check)) s = .next { s with
          rlc :=
            if check ≠ rowCheck ([origin, dest, kind, code data.length] ++ data) then { s.rlc with answer := none }
            else if dest ≠ 0 then { s.rlc with answer := none }
            else
              match stationOf origin, rowMsgOf kind data with
              | some i, some m =>
                if 16 ≤ s.rlc.inbound.length then { s.rlc with answer := some 0x5A }
                else { s.rlc with inbound := s.rlc.inbound ++ [⟨i, m⟩], answer := some 0xA5 }
              | none, _ => { s.rlc with answer := some 0xC3 }
              | _, none => { s.rlc with answer := some 0xC3 } })

/-- R159, R147, R163, R166, 11.2, R190, R191: kind and data of a row frame are a station's frame exactly when they are its
layout, within the limits that step 6 of R150 judges; kind, station field and data of a link frame are the exchange's frame
exactly when they are its layout. The frames of the part are laid out with origin 0, the node, the kind, the length and the
data of 11.2, numbers that fit their fields (log 18) most significant byte first, and the check over it all, computed bit by
bit, the most significant bit of each byte first. -/
def Obligations.FrameLayouts : Prop :=
  (∀ (kind : Byte) (data : List Byte) (m : RowInMsg), rowMsgOf kind data = some m ↔ m.Fits ∧ (kind, data) = m.wire) ∧
  (∀ (kind station : Byte) (data : List Byte) (m : LinkInMsg),
    linkMsgOf kind station data = some m ↔ (kind, station, data) = m.wire) ∧
  (∀ f : RowOutFrame, rowBytes f = rowFrame 0 f.dest.node f.msg.kind f.msg.data
    (rowCheck ([0, f.dest.node, f.msg.kind, code f.msg.data.length] ++ f.msg.data))) ∧
  (∀ m : LinkMsg, ∃ high low, linkBytes m = linkFrame m.parts.1 m.parts.2.1 m.parts.2.2 high low ∧
    high ++ low = linkCheck ([m.parts.1, m.parts.2.1, code m.parts.2.2.length] ++ m.parts.2.2)) ∧
  RowDest.broadcast.node = 63 ∧ (∀ i, (RowDest.station i).node = code (i.val + 1)) ∧
  (let row := fun (m : RowMsg) (kind : Byte) (data : List Byte) => m.kind = kind ∧ m.data = data;
    (∀ units, units < 65536 → row (.cardOk units) 0x11 (twoBytes units)) ∧
    (∀ c, row (.cardRefused (.barred c)) 0x12 [0x08, c]) ∧
    (∀ p ∈ cardRefusalCodes, row (.cardRefused p.1) 0x12 [p.2]) ∧
    (∀ p ∈ callRefusalCodes, row (.callRefused p.1) 0x13 [p.2]) ∧
    row .connected 0x14 [] ∧
    (∀ (tag : Nat) (x : Serial) (units : Nat), tag < 256 → units < 65536 →
      row (.burn tag x units) 0x15 ([code tag] ++ fourBytes x.toNat ++ twoBytes units)) ∧
    (row (.unitsLow .exhausted) 0x16 [0x06] ∧ row (.unitsLow .burnShort) 0x16 [0x08] ∧
      row (.unitsLow .burnFailed) 0x16 [0x09]) ∧
    (∀ p ∈ endCauseCodes, row (.callEnded p.1) 0x17 [p.2]) ∧ (∀ b, row (.callEnded (.exchangeClear b)) 0x17 [0x03]) ∧
    (row (.stationMode .out) 0x18 [0x00] ∧ row (.stationMode .into) 0x18 [0x01]) ∧
    row (.service .closed) 0x19 [0x00] ∧ row (.service .opened) 0x19 [0x01]) ∧
  (∀ (i : StationId) (digits : List Digit),
    (LinkMsg.callOpen i digits).parts = (0x21, code (i.val + 1), code digits.length :: packDigits digits)) ∧
  (packDigits [] = [] ∧ (∀ d, packDigits [d] = [code (d.val * 16 + 15)]) ∧
    ∀ d e l, packDigits (d :: e :: l) = code (d.val * 16 + e.val) :: packDigits l) ∧
  (∀ i : StationId, (∀ p ∈ endCauseCodes, (LinkMsg.callClear i (.cause p.1)).parts = (0x22, code (i.val + 1), [p.2])) ∧
    (∀ b, (LinkMsg.callClear i (.cause (.exchangeClear b))).parts = (0x22, code (i.val + 1), [0x03])) ∧
    (LinkMsg.callClear i .noCall).parts = (0x22, code (i.val + 1), [0xFF]) ∧
    (LinkMsg.callReleased i).parts = (0x23, code (i.val + 1), [])) ∧
  (∀ (name ref : Byte) (body : ReplyBody), ∀ p ∈ statusCodes,
    (LinkMsg.mgmtReply name ref p.1 body).parts = (0x27, 0x00, [name, ref, p.2] ++ body.bytes)) ∧
  (∀ (w : Nat) (poly init : BitVec w),
    let shift := fun (reg : BitVec w) (bit : Bool) => if reg.msb = bit then reg <<< 1 else (reg <<< 1) ^^^ poly
    crc poly init [] = init ∧
    ∀ (bytes : List Byte) (b : Byte), crc poly init (bytes ++ [b]) =
      [b.getLsbD 7, b.getLsbD 6, b.getLsbD 5, b.getLsbD 4, b.getLsbD 3, b.getLsbD 2, b.getLsbD 1, b.getLsbD 0].foldl shift
        (crc poly init bytes)) ∧
  (∀ bytes, rowCheck bytes = crc (0x07 : BitVec 8) 0x00 bytes ∧ linkCheck bytes = crc (0x1021 : BitVec 16) 0xFFFF bytes) ∧
  rowCheck [0x05] = 0x1B ∧ rowCheck [0x05, 0x00] = 0x41 ∧ rowCheck [0x05, 0x00, 0x02] = 0xCE ∧
  rowCheck [0x05, 0x00, 0x02, 0x00] = 0x64

/-- R154, R155, R169, R170: what an offer to each outbound queue does; a transmission of the head starts when the
line is free in WAITING and after the quiet time in RETRY, raising the attempt count; a link frame leaves its queue when it
has been sent. A frame still in transmission after its entry was removed is the model's `detached` (log 14), and `line` its
view of the line (log 17). -/
def Obligations.OutboundQueuesFilledAndSent : Prop :=
  (∀ (s : State) (f : RowOutFrame),
    (s.rlc.outbound.length < 64 → s.offerRow f = { s with rlc :=
      { s.rlc with outbound := s.rlc.outbound ++ [f],
                   sending := if s.rlc.sending = .empty then .waiting else s.rlc.sending,
                   attempts := if s.rlc.sending = .empty then 0 else s.rlc.attempts } }) ∧
    (64 ≤ s.rlc.outbound.length → s.offerRow f = s)) ∧
  (∀ (s : State) (m : LinkMsg),
    (s.xlc.link = .down → s.offerLink m = s) ∧
    (s.xlc.link = .up → s.xlc.outbound.length < 128 →
      s.offerLink m = { s with xlc := { s.xlc with outbound := s.xlc.outbound ++ [m] } }) ∧
    (s.xlc.link = .up → 128 ≤ s.xlc.outbound.length → s.offerLink m = s)) ∧
  (∀ (s : State) (f : RowOutFrame) (rest : List RowOutFrame), s.running = true → s.rlc.outbound = f :: rest →
    (s.rlc.sending = .waiting → exec .lineFree s = .next { s with rlc :=
      { s.rlc with sending := .sending, attempts := s.rlc.attempts + 1, line := rowBytes f } }) ∧
    (s.rlc.sending = .retry → exec .retry s = .next { s with rlc :=
      { s.rlc with sending := .sending, attempts := s.rlc.attempts + 1, line := rowBytes f } })) ∧
  (∀ (s : State) (m : LinkMsg) (rest : List LinkMsg), s.running = true → s.xlc.detached = none → s.xlc.outbound = m :: rest →
    exec .linkFrameSent s = .next { s with xlc := { s.xlc with outbound := rest, line := linkBytes m } }) ∧
  ∀ (s : State) (m : LinkMsg), s.running = true → s.xlc.detached = some m →
    exec .linkFrameSent s = .next { s with xlc := { s.xlc with detached := none, line := linkBytes m } }

/-- R156, R158, R81, R83: the head answered TAKEN, or a broadcast sent whole, leaves the queue. A BURN frame's SENDING order
enters AWAITING with 3.0 s; without one, the pair leaves the retired-tag list. Nothing else changes. The entry has left the queue when its producer acts
(log 15). -/
def Obligations.DeliveredHead : Prop :=
  ∀ (s : State) (f : RowOutFrame) (rest : List RowOutFrame), s.running = true → s.rlc.sending = .sending →
    s.rlc.outbound = f :: rest →
    (∀ i : StationId, f.dest = .station i →
      ((∀ t x u, f.msg ≠ .burn t x u) → exec (.acknowledgeSlot (some 0xA5)) s =
        .next { s with rlc := s.rlc.reported rest }.refreshAttn) ∧
      ∀ t x u, f.msg = .burn t x u →
        (∀ o, s.order i = some o → o.tag = t → o.state = .sending → exec (.acknowledgeSlot (some 0xA5)) s =
          .next (({ s with rlc := s.rlc.reported rest }.setOrder i (some { o with state := .awaiting 30 })).refreshAttn)) ∧
        ((∀ o, s.order i = some o → o.tag = t → o.state ≠ .sending) → exec (.acknowledgeSlot (some 0xA5)) s =
          .next { s with rlc := s.rlc.reported rest,
                         de := { s.de with retired := s.de.retired.erase (i, t) } }.refreshAttn)) ∧
    (f.dest = .broadcast → exec .broadcastSent s = .next { s with rlc := s.rlc.reported rest })

/-- R149, R155, R156, R82, R83: BUSY, silence (any other byte, or none) and a spoiled transmission send the head to RETRY below
four transmissions. Refused, or failed at its fourth transmission, it leaves the queue undelivered (log 15): a BURN frame's
SENDING order takes the outcome UNDELIVERED, and without one the pair leaves the retired-tag list. -/
def Obligations.TransmissionNotTaken : Prop :=
  (∀ (s : State) (f : RowOutFrame) (rest : List RowOutFrame), s.running = true → s.rlc.sending = .sending →
    s.rlc.outbound = f :: rest → s.rlc.attempts < 4 →
    exec .spoiledTransmission s = .next { s with rlc := { s.rlc with sending := .retry } }.refreshAttn ∧
    ∀ (i : StationId) (heard : Option Byte), f.dest = .station i → heard ≠ some 0xA5 → heard ≠ some 0xC3 →
      exec (.acknowledgeSlot heard) s = .next { s with rlc := { s.rlc with sending := .retry } }.refreshAttn) ∧
  ∀ (s : State) (f : RowOutFrame) (rest : List RowOutFrame) (c : Instr), s.running = true → s.rlc.sending = .sending →
    s.rlc.outbound = f :: rest →
    ((∃ i, f.dest = .station i) ∧ c = .acknowledgeSlot (some 0xC3)) ∨
      ((∃ i, f.dest = .station i) ∧ 4 ≤ s.rlc.attempts ∧
        ∃ heard, heard ≠ some 0xA5 ∧ heard ≠ some 0xC3 ∧ c = .acknowledgeSlot heard) ∨
      (4 ≤ s.rlc.attempts ∧ c = .spoiledTransmission) →
    ((∀ i t x u, ¬(f.dest = .station i ∧ f.msg = .burn t x u)) → exec c s =
      .next { s with rlc := s.rlc.reported rest }.refreshAttn) ∧
    ∀ i t x u, f.dest = .station i → f.msg = .burn t x u →
      (∀ o, s.order i = some o → o.tag = t → o.state = .sending → exec c s =
        .next (({ s with rlc := s.rlc.reported rest }.takeOutcome i o .undelivered).refreshAttn)) ∧
      ((∀ o, s.order i = some o → o.tag = t → o.state ≠ .sending) → exec c s =
        .next { s with rlc := s.rlc.reported rest, de := { s.de with retired := s.de.retired.erase (i, t) } }.refreshAttn)

/-! ## Cards -/

/-- R71, R58: a CARD_IN that passes every check. -/
def Obligations.CardAdmitted : Prop :=
  ∀ (s : State) (i : StationId) (x : Serial) (batch units : Nat) (rest : List RowInFrame) (e : BatchEntry),
    s.running = true → s.rlc.inbound = ⟨i, .cardIn x batch units⟩ :: rest →
    (s.station i).state = .idle → s.mu.service = .opened →
    s.ct.batchEntry batch = some e → e.standing = .current → units ≤ e.face → units ≠ 0 → s.ct.barCode x = none →
    (∀ r, s.ct.find x = some r → r.isRemembered = true ∧ units ≤ r.confirmed) →
    ∃ t, exec .cardIn s = .next t ∧
      t.station i = { s.station i with card := some x, state := .ready } ∧ (∀ j, j ≠ i → t.station j = s.station j) ∧
      (∀ r, s.ct.find x = some r → t.ct.cards = s.ct.cards.filter (·.serial ≠ x) ++
        [{ r with batch := batch, state := .active i, confirmed := units, uncertainLow := none }]) ∧
      (s.ct.find x = none → s.ct.cards.length < 96 → t.ct.cards = s.ct.cards ++
        [{ serial := x, batch := batch, state := .active i, confirmed := units, uncertainLow := none, strikes := 0 }]) ∧
      (s.ct.find x = none → 96 ≤ s.ct.cards.length → ∀ pre r post, s.ct.cards = pre ++ r :: post →
        (∀ q ∈ pre, q.isRemembered = false) → r.isRemembered = true → t.ct.cards = pre ++ post ++
          [{ serial := x, batch := batch, state := .active i, confirmed := units, uncertainLow := none, strikes := 0 }]) ∧
      (∀ j, t.order j = (s.order j).map fun o => if o.serial = x then { o with settled := true } else o) ∧
      t.de = { s.de with orders := t.de.orders } ∧ t.ct = { s.ct with cards := t.ct.cards } ∧
      t = { (s.rowTaken rest).tellCard i (.cardOk units) with cc := t.cc, ct := t.ct, de := t.de }

/-- R64 checks 1 to 6, R65 to R68: the first check that fails gives the refusal, and only its frame is queued. -/
def Obligations.CardRefusedInOrder : Prop :=
  ∀ (s : State) (i : StationId) (x : Serial) (batch units : Nat) (rest : List RowInFrame),
    s.running = true → s.rlc.inbound = ⟨i, .cardIn x batch units⟩ :: rest →
    let refused := fun r => exec .cardIn s = .next ((s.rowTaken rest).tellCard i (.cardRefused r))
    ((s.station i).state = .outOfService → refused .outOfService) ∧
    ((s.station i).state ≠ .outOfService → (s.station i).state ≠ .idle → refused .stationBusy) ∧
    ((s.station i).state = .idle →
      (s.mu.service = .closed → refused .closed) ∧
      (s.mu.service = .opened →
        ((∀ e ∈ s.ct.batches, e.2.batch ≠ batch) → refused .unknownBatch) ∧
        ∀ e, s.ct.batchEntry batch = some e →
          (e.standing = .withdrawn → refused .withdrawn) ∧
          (e.standing = .current →
            (e.face < units → refused .overFace) ∧
            (units ≤ e.face →
              (units = 0 → refused .empty) ∧
              (units ≠ 0 →
                (∀ pre k h post, s.ct.hot = pre ++ (k, h) :: post → (∀ p ∈ pre, ¬(p.2.first ≤ x ∧ x ≤ p.2.last)) →
                  h.first ≤ x → x ≤ h.last → refused (.barred h.code)) ∧
                ((∀ p ∈ s.ct.hot, ¬(p.2.first ≤ x ∧ x ≤ p.2.last)) → x ∈ s.ct.autobar → refused (.barred 0)))))))

/-- R69, R70, R75, R76, R73: a refusal at check 7 or 8 counts a strike; a third strike adds the serial to the auto-bar list
and bars an ACTIVE card where it is; the refusal is queued last. -/
def Obligations.StrikesCountAndThirdBars : Prop :=
  ∀ (s : State) (i : StationId) (x : Serial) (batch units : Nat) (rest : List RowInFrame) (e : BatchEntry) (r : CardRecord),
    s.running = true → s.rlc.inbound = ⟨i, .cardIn x batch units⟩ :: rest →
    (s.station i).state = .idle → s.mu.service = .opened →
    s.ct.batchEntry batch = some e → e.standing = .current → units ≤ e.face → units ≠ 0 → s.ct.barCode x = none →
    s.ct.find x = some r →
    let struck := s.ct.cards.map fun q => if q.serial = x then { q with strikes := min 3 (q.strikes + 1) } else q
    let after := { s.rowTaken rest with ct := { s.ct with cards := struck } }
    let third := { after with ct := { after.ct with
      autobar := (if s.ct.autobar.length < 32 then s.ct.autobar else s.ct.autobar.tail) ++ [x] } }
    (∀ j, r.state = .active j →
      (r.strikes < 2 → exec .cardIn s = .next (after.tellCard i (.cardRefused .inUse))) ∧
      (2 ≤ r.strikes → exec .cardIn s = .next ((third.barCard j x 0).tellCard i (.cardRefused .inUse)))) ∧
    (∀ n, r.state = .remembered n → r.confirmed < units →
      (r.strikes < 2 → exec .cardIn s = .next (after.tellCard i (.cardRefused .unitsRose))) ∧
      (2 ≤ r.strikes → exec .cardIn s = .next (third.tellCard i (.cardRefused .unitsRose))))

/-- R73, R24, R56: a card ACTIVE at a station is barred: its record is REMEMBERED at the tail with 300 s, CARD_REFUSED(BARRED)
is queued, the station loses the card and acts by its state. -/
def Obligations.CardBarredInUse : Prop :=
  ∀ (s : State) (i : StationId) (x : Serial) (c : Byte) (r : CardRecord),
    s.ct.find x = some r → r.state = .active i →
    let left := s.withCards (s.ct.cards.filter (·.serial ≠ x) ++ [{ r with state := .remembered 3000 }])
    let gone := (left.tellCard i (.cardRefused (.barred c))).setStation i { s.station i with card := none }
    ((s.station i).state = .ready →
      s.barCard i x c = gone.setStation i { s.station i with card := none, state := .idle }) ∧
    ((s.station i).inCall = true → s.barCard i x c = gone.startClear i .barredCard) ∧
    ((s.station i).state = .clearing → s.barCard i x c = gone)

/-- R7, R56, R57: CARD_OUT by the station state; and an expired remember timer (none left: log 3) deletes the record. -/
def Obligations.CardOutAndMemory : Prop :=
  (∀ (s : State) (i : StationId) (rest : List RowInFrame), s.running = true → s.rlc.inbound = ⟨i, .cardOut⟩ :: rest →
    (∀ x r, (s.station i).card = some x → s.ct.find x = some r → r.state = .active i →
      let left := s.ct.cards.filter (·.serial ≠ x) ++ [{ r with state := .remembered 3000 }]
      let gone := ((s.rowTaken rest).withCards left).setStation i { s.station i with card := none }
      ((s.station i).state = .ready → exec .cardOut s =
        .next (gone.setStation i { s.station i with card := none, state := .idle })) ∧
      ((s.station i).inCall = true → exec .cardOut s = .next (gone.startClear i .cardOut)) ∧
      ((s.station i).state = .clearing → exec .cardOut s = .next gone)) ∧
    ((s.station i).card = none ∨ (s.station i).state = .idle ∨ (s.station i).state = .outOfService →
      exec .cardOut s = .next (s.rowTaken rest))) ∧
  ∀ (s : State) (x : Serial) (r : CardRecord), s.running = true → s.ct.find x = some r → r.state = .remembered 0 →
    exec (.rememberTimerExpiry x) s = .next { s with ct := { s.ct with cards := s.ct.cards.filter (·.serial ≠ x) } }

/-! ## Calls -/

/-- R8: HOOK_ON by the station state. -/
def Obligations.HookOnByState : Prop :=
  ∀ (s : State) (i : StationId) (rest : List RowInFrame), s.running = true → s.rlc.inbound = ⟨i, .hookOn⟩ :: rest →
    ((s.station i).state = .setup ∨ (s.station i).state = .talk →
      exec .hookOn s = .next ((s.rowTaken rest).startClear i .hookOn)) ∧
    ((s.station i).state ≠ .setup → (s.station i).state ≠ .talk → exec .hookOn s = .next (s.rowTaken rest))

/-- R15, R20, R22: the part starts the clear of a call. -/
def Obligations.ClearStartedByThePart : Prop :=
  ∀ (s : State) (i : StationId) (c : EndCause) (x : CallContext),
    (s.station i).state = .setup ∨ (s.station i).state = .talk → (s.station i).context = some x →
    s.startClear i c =
      ((s.setStation i { s.station i with
        state := .clearing, intervals := [], answerTimer := none, headTimer := none, releaseTimer := some 50,
        context := some { x with
          endCause := some c, released := false, orderResolved := some (s.order i).isNone,
          talkDuration := if (s.station i).state = .talk then some (s.elapsed - x.answerMark.getD s.elapsed)
            else x.talkDuration } }).offerLink (.callClear i (.cause c))).tellStation i (.callEnded c)

/-- R17, R18, R19: a CALL_CLEAR from the exchange by the station state. -/
def Obligations.ExchangeClearByState : Prop :=
  ∀ (s : State) (i : StationId) (b : Byte) (rest : List LinkInMsg), s.running = true →
    s.xlc.inbound = .callClear i b :: rest →
    ((s.station i).state = .idle ∨ (s.station i).state = .ready ∨ (s.station i).state = .outOfService →
      exec .callClear s = .next (((s.linkTaken rest).offerLink (.callReleased i)).refreshAttn)) ∧
    (∀ x, (s.station i).context = some x →
      ((s.station i).state = .setup ∨ (s.station i).state = .talk → exec .callClear s =
        .next ((((((s.linkTaken rest).setStation i { s.station i with
          state := .clearing, intervals := [], answerTimer := none, headTimer := none, releaseTimer := none,
          context := some { x with
            endCause := some (.exchangeClear b), released := true, orderResolved := some (s.order i).isNone,
            talkDuration := if (s.station i).state = .talk then some (s.elapsed - x.answerMark.getD s.elapsed)
              else x.talkDuration } }).offerLink (.callReleased i)).tellStation i
            (.callEnded (.exchangeClear b))).completeIfDone i).refreshAttn)) ∧
      ((s.station i).state = .clearing →
        (x.released = true → exec .callClear s = .next (s.linkTaken rest).refreshAttn) ∧
        (x.released = false → exec .callClear s =
          .next ((((s.linkTaken rest).setStation i { s.station i with
            context := some { x with released := true }, releaseTimer := none }).completeIfDone i).refreshAttn))))

/-- R16, R19: CALL_RELEASED and the release timer (none left: log 3) make released true in CLEARING, once; elsewhere
CALL_RELEASED is ignored. -/
def Obligations.ReleaseObtained : Prop :=
  (∀ (s : State) (i : StationId) (rest : List LinkInMsg), s.running = true → s.xlc.inbound = .callReleased i :: rest →
    ((s.station i).state ≠ .clearing → exec .callReleased s = .next (s.linkTaken rest).refreshAttn) ∧
    ∀ x, (s.station i).state = .clearing → (s.station i).context = some x →
      (x.released = true → exec .callReleased s = .next (s.linkTaken rest).refreshAttn) ∧
      (x.released = false → exec .callReleased s =
        .next ((((s.linkTaken rest).setStation i { s.station i with
          context := some { x with released := true }, releaseTimer := none }).completeIfDone i).refreshAttn))) ∧
  ∀ (s : State) (i : StationId) (x : CallContext), s.running = true → (s.station i).state = .clearing →
    (s.station i).context = some x → x.released = false → (s.station i).releaseTimer = some 0 →
    exec (.releaseTimerExpiry i) s =
      .next (((s.setStation i { s.station i with
        context := some { x with released := true }, releaseTimer := none }).completeIfDone i).refreshAttn)

/-- R21, R133, R134, R137, R141, R103: a clear completes when released and order resolved are both true, and only then:
the record is stored, the bank unpinned, and the station enters its new state. The number is given at storing, whatever the
order of admission (R134 before R130: log 26). -/
def Obligations.ClearCompletes : Prop :=
  ∀ (s : State) (i : StationId) (x : CallContext) (c : EndCause), (s.station i).state = .clearing →
    (s.station i).context = some x → x.endCause = some c →
    (¬(x.released = true ∧ x.orderResolved = some true) → s.completeIfDone i = s) ∧
    (x.released = true → x.orderResolved = some true →
      let t := s.completeIfDone i
      let records := s.rq.records ++ [{
        number := s.rq.nextNumber, station := i, card := x.card, dialled := x.dialled,
        charged := decide (x.kind ≠ .free), bank := x.bank, atAnswer := x.atAnswer, openTime := x.openTime,
        answered := x.answered, talkDuration := x.talkDuration.getD 0, intervalsBegun := x.intervalsBegun,
        unitsBurned := x.unitsBurned, unresolved := x.unresolved, endCause := c }]
      let number := if s.rq.nextNumber < 4294967295 then s.rq.nextNumber + 1 else 1
      t.rq = { s.rq with records := records, nextNumber := number, reservations := s.rq.reservations - 1,
                         store := { records := records, nextNumber := number, checkAgrees := true, vbakHeld := true } } ∧
      t.bank x.bank = { s.bank x.bank with
        pins := (s.bank x.bank).pins - 1,
        state := if (s.bank x.bank).state = .draining ∧ (s.bank x.bank).pins - 1 = 0 then .standby
          else (s.bank x.bank).state } ∧
      t.bank x.bank.other = s.bank x.bank.other ∧
      ((s.station i).thenOut = true →
        t.station i = { s.station i with context := none, releaseTimer := none, thenOut := false, card := none,
                                         state := .outOfService } ∧
        t.ct.cards = match (s.station i).card with
          | some y => rememberCard y s.ct.cards
          | none => s.ct.cards) ∧
      ((s.station i).thenOut = false →
        t.station i = { s.station i with context := none, releaseTimer := none,
                                         state := if (s.station i).card.isSome then .ready else .idle } ∧
        t.ct.cards = s.ct.cards) ∧
      (∀ j, j ≠ i → t.station j = s.station j) ∧ t.ct = { s.ct with cards := t.ct.cards } ∧
      t = { s with rq := t.rq, ts := t.ts, cc := t.cc, ct := t.ct })

/-- R25, R27, R184: SET_STATION writes the class, and then puts the station in or takes it out; with any value out of range it
is answered RANGE and writes nothing; and taking a station out of service with either reason, by its state. -/
def Obligations.StationPutInAndTakenOut : Prop :=
  (∀ (s : State) (station k mode : Byte), station = 0 ∨ 48 < station ∨ k = 0 ∨ 3 < k ∨ 1 < mode →
    setStation [station, k, mode] s = ⟨.range, .nothing, s⟩) ∧
  (∀ (s : State) (i : StationId) (k : Nat),
    let s1 := s.setStation i { s.station i with cls := k }
    (setStation [code (i.val + 1), code k, 1] s =
      if 1 ≤ (code k).toNat ∧ (code k).toNat ≤ 3 then
        ⟨.done, .nothing, (s.setMode i (code k).toNat .into).refreshAttn⟩ else ⟨.range, .nothing, s⟩) ∧
    (setStation [code (i.val + 1), code k, 0] s =
      if 1 ≤ (code k).toNat ∧ (code k).toNat ≤ 3 then
        ⟨.done, .nothing, (s.setMode i (code k).toNat .out).refreshAttn⟩ else ⟨.range, .nothing, s⟩) ∧
    ((s.station i).state = .outOfService → s.setMode i k .into =
      { s1.setStation i { s.station i with cls := k, state := .idle, outReason := none } with
        de := { s.de with failures := s.de.failures.set i 0 } }.tellStation i (.stationMode .into)) ∧
    ((s.station i).state ≠ .outOfService → s.setMode i k .into = s1) ∧
    s.setMode i k .out = s1.takeOut i .takenOut) ∧
  ∀ (s : State) (i : StationId) (w : OutReason),
    let out := fun (c : Option Serial) => { s.station i with card := c, state := .outOfService, outReason := some w }
    let marked := { s.station i with thenOut := true, outReason := some w }
    let told := fun (t : State) => t.tellStation i (.stationMode .out)
    let cause := match w with
      | .stationFault => EndCause.stationFault
      | .takenOut => EndCause.takenOut
    ((s.station i).state = .outOfService → s.takeOut i w = s) ∧
    ((s.station i).state = .idle → s.takeOut i w = told (s.setStation i (out (s.station i).card))) ∧
    (∀ x r, (s.station i).state = .ready → (s.station i).card = some x → s.ct.find x = some r → r.state = .active i →
      s.takeOut i w = told ((s.setStation i (out none)).withCards
        (s.ct.cards.filter (·.serial ≠ x) ++ [{ r with state := .remembered 3000 }]))) ∧
    ((s.station i).inCall = true → s.takeOut i w = told ((s.setStation i marked).startClear i cause)) ∧
    ((s.station i).state = .clearing → s.takeOut i w =
      told (if (s.station i).thenOut = true then s else s.setStation i marked))

/-- R9, R11, R102, R136, R3, R130: a NUMBER that passes every check. -/
def Obligations.CallAdmitted : Prop :=
  ∀ (s : State) (i : StationId) (digits : List Digit) (rest : List RowInFrame) (bank : BankId) (k : CallKind) (act : Action),
    s.running = true → s.rlc.inbound = ⟨i, .number digits⟩ :: rest →
    (s.station i).state = .idle ∨ (s.station i).state = .ready → s.mu.service = .opened → s.xlc.link = .up →
    s.activeBank = some bank → (s.bank bank).lookup digits = some act →
    (act = .free ∧ k = .free) ∨ (∃ n, act = .band n ∧ k = .charged n ∧ (s.station i).card.isSome = true ∧
      (s.priceNow bank n).setup + (s.priceNow bank n).units ≤ s.cardBound i) →
    s.rq.records.length + s.rq.reservations < 512 → s.xlc.outbound.length < 128 →
    ∃ t, exec .number s = .next t ∧
      t.station i = { s.station i with
        state := .setup, answerTimer := some 1200,
        context := some {
          dialled := digits, kind := k, bank := bank,
          card := (s.station i).card.bind fun x => (s.ct.find x).map fun r => (x, r.batch),
          openTime := { date := s.tb.date, dayType := s.tb.dayType, time := s.tb.time, trusted := s.tb.trusted },
          answered := false, answerMark := none, atAnswer := none, intervalsBegun := 0, unitsBurned := 0,
          unresolved := none, finalMark := none, talkDuration := none, endCause := none, released := false,
          orderResolved := none } } ∧
      (∀ j, j ≠ i → t.station j = s.station j) ∧
      t.bank bank = { s.bank bank with pins := (s.bank bank).pins + 1 } ∧ t.bank bank.other = s.bank bank.other ∧
      t.rq = { s.rq with reservations := s.rq.reservations + 1 } ∧
      t.xlc = { s.xlc with outbound := s.xlc.outbound ++ [.callOpen i digits] } ∧
      t = { s.rowTaken rest with cc := t.cc, ts := t.ts, rq := t.rq, xlc := t.xlc }

/-- R9, R26, R29, R138: the first check that fails refuses the NUMBER, and only CALL_REFUSED is queued. -/
def Obligations.CallRefusedInOrder : Prop :=
  ∀ (s : State) (i : StationId) (digits : List Digit) (rest : List RowInFrame),
    s.running = true → s.rlc.inbound = ⟨i, .number digits⟩ :: rest →
    let refused := fun r => exec .number s = .next ((s.rowTaken rest).tellStation i (.callRefused r))
    ((s.station i).state = .outOfService → refused .outOfService) ∧
    ((s.station i).state = .setup ∨ (s.station i).state = .talk ∨ (s.station i).state = .clearing → refused .busy) ∧
    ((s.station i).state = .idle ∨ (s.station i).state = .ready →
      (s.mu.service = .closed → refused .closed) ∧
      (s.mu.service = .opened →
        (s.xlc.link = .down → refused .linkDown) ∧
        (s.xlc.link = .up →
          (s.activeBank = none → refused .noTariff) ∧
          ∀ bank, s.activeBank = some bank →
            ((s.bank bank).lookup digits = none → refused .noTariff) ∧
            ((s.bank bank).lookup digits = some .barred → refused .barredNumber) ∧
            (∀ n, (s.bank bank).lookup digits = some (.band n) →
              ((s.station i).card = none → refused .noCard) ∧
              ((s.station i).card ≠ none →
                s.cardBound i < (s.priceNow bank n).setup + (s.priceNow bank n).units → refused .noUnits)) ∧
            ((s.bank bank).lookup digits = some .free ∨ (∃ n, (s.bank bank).lookup digits = some (.band n) ∧
                (s.station i).card ≠ none ∧ (s.priceNow bank n).setup + (s.priceNow bank n).units ≤ s.cardBound i) →
              (512 ≤ s.rq.records.length + s.rq.reservations → refused .recordsFull) ∧
              (s.rq.records.length + s.rq.reservations < 512 → 128 ≤ s.xlc.outbound.length →
                refused .linkCongested)))))

/-- R12, R13, R19: a CALL_ANSWERED for a FREE call in SETUP, and for a station not in SETUP; and an expired answer timer
(none left: log 3). -/
def Obligations.AnswerAndNoAnswer : Prop :=
  (∀ (s : State) (i : StationId) (rest : List LinkInMsg), s.running = true → s.xlc.inbound = .callAnswered i :: rest →
    (∀ x, (s.station i).state = .setup → (s.station i).context = some x → x.kind = .free →
      exec .callAnswered s = .next ((((s.linkTaken rest).setStation i { s.station i with
        state := .talk, answerTimer := none,
        context := some { x with answered := true, answerMark := some s.elapsed, atAnswer := none } }).tellStation i
          .connected).refreshAttn)) ∧
    ((s.station i).state ≠ .setup →
      exec .callAnswered s = .next (((s.linkTaken rest).offerLink (.callClear i .noCall)).refreshAttn))) ∧
  ∀ (s : State) (i : StationId), s.running = true → (s.station i).state = .setup →
    (s.station i).answerTimer = some 0 → exec (.answerTimerExpiry i) s = .next (s.startClear i .noAnswer)

/-- R12, R31 to R35: a CALL_ANSWERED for a CHARGED call in SETUP: the opening block is priced; with none the call clears with
NO_UNITS, and otherwise TALK is set up, CONNECTED queued and the opening order issued. -/
def Obligations.ChargedAnswer : Prop :=
  ∀ (s : State) (i : StationId) (rest : List LinkInMsg) (x : CallContext) (b : Band) (card : Serial),
    s.running = true → s.xlc.inbound = .callAnswered i :: rest →
    (s.station i).state = .setup → (s.station i).context = some x → x.kind = .charged b → (s.station i).card = some card →
    let p := s.period x.bank b
    let e := (s.bank x.bank).price b p
    let j := min (s.station i).cls ((s.lowerBound card - e.setup) / e.units)
    let answered := { x with answered := true, answerMark := some s.elapsed, atAnswer := some (b, p) }
    (j = 0 → exec .callAnswered s = .next ((((s.linkTaken rest).setStation i { s.station i with
      answerTimer := none, context := some answered }).startClear i .noUnits).refreshAttn)) ∧
    (1 ≤ j → exec .callAnswered s = .next (((((s.linkTaken rest).setStation i { s.station i with
      state := .talk, answerTimer := none, headTimer := some e.length,
      intervals := List.replicate j { length := e.length, units := e.units, status := .priced },
      context := some { answered with intervalsBegun := 1 } }).tellStation i .connected).issueOrder i card
        (e.setup + j * e.units) .opening).refreshAttn))

/-! ## Metering and burn orders -/

/-- R55, R109, R110: the lower bound of a card is its confirmed units less the units of its unsettled order; a price is the band
table's entry of the band and of the period in force. -/
def Obligations.LowerBoundAndPrice : Prop :=
  (∀ (s : State) (x : Serial) (r : CardRecord), s.ct.find x = some r →
    ((∀ j o, s.order j = some o → o.serial = x → o.settled = true) → s.lowerBound x = r.confirmed) ∧
    ∀ i o, s.order i = some o → o.serial = x → o.settled = false →
      (∀ j p, s.order j = some p → p.serial = x → p.settled = false → p = o) → s.lowerBound x = r.confirmed - o.units) ∧
  (∀ (s : State) (i : StationId),
    (∀ x, (s.station i).card = some x → s.cardBound i = s.lowerBound x) ∧ ((s.station i).card = none → s.cardBound i = 0)) ∧
  ∀ (s : State) (x : BankId) (band : Band) (e : BandEntry),
    SlotTable.read (band.val * 4 + (s.period x band).val) (s.bank x).bands = some e →
    s.priceNow x band = e ∧ (s.bank x).price band (s.period x band) = e

/-- R39, R40, R41: the head interval timer expires (none left: log 3). -/
def Obligations.HeadIntervalExpires : Prop :=
  ∀ (s : State) (i : StationId) (x : CallContext) (head : Interval) (rest : List Interval), s.running = true →
    (s.station i).state = .talk → (s.station i).context = some x → (s.station i).headTimer = some 0 →
    (s.station i).intervals = head :: rest →
    (∀ e l, rest = e :: l → e.status = .paid → exec (.headIntervalExpiry i) s =
      .next (((s.setStation i { s.station i with
        intervals := rest, headTimer := some e.length,
        context := some { x with intervalsBegun := x.intervalsBegun + 1 } }).considerReplenish i).refreshAttn)) ∧
    (∀ e l, rest = e :: l → e.status = .priced → exec (.headIntervalExpiry i) s =
      .next ((s.startClear i .burnLate).refreshAttn)) ∧
    (∀ c, rest = [] → x.finalMark = some c → exec (.headIntervalExpiry i) s =
      .next ((s.startClear i c.toEnd).refreshAttn))

/-- R36, R37, R38, R33, R42, R43: replenishment, made only when its four conditions hold. -/
def Obligations.Replenishment : Prop :=
  ∀ (s : State) (i : StationId) (x : CallContext) (b : Band) (card : Serial),
    (s.station i).state = .talk → (s.station i).context = some x → x.kind = .charged b → (s.station i).card = some card →
    let due := (∃ e, (s.station i).intervals = [e] ∧ e.status = .paid) ∧ s.order i = none ∧ x.finalMark = none
    let e := (s.bank x.bank).price b (s.period x.bank b)
    let j := min (s.station i).cls (s.lowerBound card / e.units)
    (¬due → s.considerReplenish i = s) ∧
    (due → j = 0 → s.considerReplenish i =
      (s.setStation i { s.station i with context := some { x with finalMark := some .exhausted } }).tellStation i
        (.unitsLow .exhausted)) ∧
    (due → 1 ≤ j → s.considerReplenish i =
      (s.setStation i { s.station i with
        intervals := (s.station i).intervals ++
          List.replicate j { length := e.length, units := e.units, status := .priced } }).issueOrder i card (j * e.units)
        .replenish)

/-- R79, R80, R94: an order is issued: its tag is the first from the counter on that is neither held nor retired, and its
BURN frame is queued; with the row outbound queue full it is UNDELIVERED within the issue. -/
def Obligations.OrderIssued : Prop :=
  ∀ (s : State) (i : StationId) (card : Serial) (units : Nat) (p : Purpose),
    let tag := s.de.offeredTag
    let o : BurnOrder := { tag := tag, serial := card, units := units, purpose := p, state := .sending, settled := false }
    let held := { s with de := { s.de with
      orders := s.de.orders.set i (some o), tagCounter := if tag < 255 then tag + 1 else 1 } }
    (s.rlc.outbound.length < 64 →
      s.issueOrder i card units p = held.offerRow ⟨.station i, .burn tag card units, .de⟩) ∧
    (64 ≤ s.rlc.outbound.length → s.issueOrder i card units p = held.outcomeSteps i o .undelivered) ∧
    (s.TagsLegal → 1 ≤ tag ∧ tag ≤ 255 ∧ tag ∉ s.de.heldTags ∧ tag ∉ s.de.retired.map Prod.snd ∧
      ∀ n, 1 ≤ n → n ≤ 255 → s.de.tagCounter ≤ n ∧ (n < tag ∨ tag < s.de.tagCounter) ∨
          n < s.de.tagCounter ∧ n < tag ∧ tag < s.de.tagCounter →
        n ∈ s.de.heldTags ∨ n ∈ s.de.retired.map Prod.snd)

/-- R84, R85, R86, R87: which outcome a BURN_REPORT and an expired reply timer give, a matching report of a SENDING order
retiring its tag before the outcome is taken (log 16), and a report that matches no order being discarded. A timer expires
with none left (log 3). -/
def Obligations.OutcomeNamed : Prop :=
  (∀ (s : State) (i : StationId) (tag burned now : Nat) (rest : List RowInFrame), s.running = true →
    s.rlc.inbound = ⟨i, .burnReport tag burned now⟩ :: rest →
    ((∀ o, s.order i = some o → o.tag ≠ tag) → exec .burnReport s = .next (s.rowTaken rest).refreshAttn) ∧
    ∀ o, s.order i = some o → o.tag = tag →
      let out := if min burned o.units = o.units then .full now else .short burned now
      (o.state = .sending → exec .burnReport s =
        .next (({ s.rowTaken rest with de := { s.de with retired := s.de.retired ++ [(i, tag)] } }.takeOutcome i o
          out).refreshAttn)) ∧
      (o.state ≠ .sending → exec .burnReport s = .next (((s.rowTaken rest).takeOutcome i o out).refreshAttn))) ∧
  ∀ (s : State) (i : StationId) (o : BurnOrder), s.running = true → s.order i = some o → o.state = .awaiting 0 →
    exec (.replyTimerExpiry i) s = .next ((s.takeOutcome i o .timedOut).refreshAttn)

/-- R88, R89, R59, R60, R92, R93: taking an outcome, step by step: the card update unless the order is settled, the failure
count, the order deleted and the outcome handed to the call, and the station taken out at a count of 4; after FULL
replenishment is considered. -/
def Obligations.OutcomeTaken : Prop :=
  ∀ (s : State) (i : StationId) (o : BurnOrder) (out : OrderOutcome),
    let reported := fun (b now : Nat) (r : CardRecord) =>
      { r with confirmed := min now (r.confirmed - b), uncertainLow := none }
    let update : CardRecord → CardRecord := match out with
      | .full now => reported o.units now
      | .short b now => reported b now
      | .undelivered => id
      | .timedOut => fun r => { r with uncertainLow := some (r.uncertainLow.getD r.confirmed - o.units) }
    let cards := if o.settled = true then s.ct.cards
      else s.ct.cards.map fun r => if r.serial = o.serial then update r else r
    let count := match out with
      | .full _ => 0
      | _ => min 4 (s.de.failures.get i + 1)
    let after := { s with
      ct := { s.ct with cards := cards },
      de := { s.de with failures := s.de.failures.set i count, orders := s.de.orders.set i none } }.outcomeToCall i o out
    (count = 4 → s.takeOutcome i o out = after.takeOut i .stationFault) ∧
    (count ≠ 4 → (∀ now, out ≠ .full now) → s.takeOutcome i o out = after) ∧
    (∀ now, out = .full now → s.takeOutcome i o out = after.considerReplenish i)

/-- R44 to R48, R20: what an outcome does to the call of its station, in TALK and in CLEARING; and the entries that a SHORT
outcome of `b` units covers, after the setup units `due` of an opening order: of a list of paid entries, then priced ones of
`u` units each, as many of the latter as the units left after the setup pay. -/
def Obligations.OutcomeOnTheCall : Prop :=
  (∀ (s : State) (i : StationId) (o : BurnOrder) (x : CallContext), (s.station i).context = some x →
    let with' := fun (y : CallContext) (l : List Interval) =>
      s.setStation i { s.station i with context := some y, intervals := l }
    let l := (s.station i).intervals
    let paid := l.filter fun e => e.status == .paid
    let unresolved := { x with unresolved := some o.units }
    ((s.station i).state = .talk →
      (∀ now, s.outcomeToCall i o (.full now) = with' { x with unitsBurned := x.unitsBurned + o.units }
        (l.map fun e => { e with status := .paid })) ∧
      (∀ b now,
        let y := { x with unitsBurned := x.unitsBurned + b }
        let due := match o.purpose, x.atAnswer with
          | .opening, some (band, period) => ((s.bank x.bank).price band period).setup
          | _, _ => 0
        let left := coverShort due b l
        (left = [] → s.outcomeToCall i o (.short b now) = (with' y []).startClear i .burnShort) ∧
        (left ≠ [] → s.outcomeToCall i o (.short b now) =
          (with' { y with finalMark := some .burnShort } left).tellStation i (.unitsLow .burnShort))) ∧
      (paid = [] →
        s.outcomeToCall i o .undelivered = (with' x []).startClear i .burnFailed ∧
        s.outcomeToCall i o .timedOut = (with' unresolved []).startClear i .burnFailed) ∧
      (paid ≠ [] →
        s.outcomeToCall i o .undelivered =
          (with' { x with finalMark := some .burnFailed } paid).tellStation i (.unitsLow .burnFailed) ∧
        s.outcomeToCall i o .timedOut =
          (with' { unresolved with finalMark := some .burnFailed } paid).tellStation i (.unitsLow .burnFailed))) ∧
    ((s.station i).state = .clearing →
      (∀ now, s.outcomeToCall i o (.full now) =
        (with' { x with unitsBurned := x.unitsBurned + o.units, orderResolved := some true } l).completeIfDone i) ∧
      (∀ b now, s.outcomeToCall i o (.short b now) =
        (with' { x with unitsBurned := x.unitsBurned + b, orderResolved := some true } l).completeIfDone i) ∧
      s.outcomeToCall i o .undelivered = (with' { x with orderResolved := some true } l).completeIfDone i ∧
      s.outcomeToCall i o .timedOut = (with' { unresolved with orderResolved := some true } l).completeIfDone i)) ∧
  ∀ (due b u : Nat) (paid priced : List Interval), (∀ e ∈ paid, e.status = .paid) →
    (∀ e ∈ priced, e.status = .priced ∧ e.units = u) → 1 ≤ u →
    coverShort due b (paid ++ priced) =
      paid ++ (priced.take (if b < due then 0 else (b - due) / u)).map fun e => { e with status := .paid }

/-! ## The exchange link and the clock -/

/-- R164, R171, R172: the steps in order: a frame that is broken or whose check does not agree changes nothing; any other
makes the link UP and starts the silence timer, and is queued or discarded. Bytes beyond the end of the frame they spell make
it broken (log 23). -/
def Obligations.LinkFrameJudged : Prop :=
  ∀ s : State, s.running = true →
    (∀ bytes, (¬∃ kind station data high low, data.length ≤ 48 ∧ bytes = linkFrame kind station data high low) →
      exec (.linkFrameReceived bytes) s = .next s.refreshAttn) ∧
    ∀ (kind station : Byte) (data : List Byte) (high low : Byte), data.length ≤ 48 →
      exec (.linkFrameReceived (linkFrame kind station data high low)) s = .next
        (if high ++ low ≠ linkCheck ([kind, station, code data.length] ++ data) then s.refreshAttn
         else { s with xlc := { s.xlc with
           link := .up, silence := some 300,
           inbound := match linkMsgOf kind station data with
             | some m => if s.xlc.inbound.length < 32 then s.xlc.inbound ++ [m] else s.xlc.inbound
             | none => s.xlc.inbound } }.refreshAttn)

/-- R123, R124, R129: a CLOCK frame with good content sets the clock and the trust and starts the untrust timer, and touches
no other timer; any other is discarded; an expired untrust timer (none left: log 3) clears trusted. -/
def Obligations.ClockSetAndUntrusted : Prop :=
  (∀ (s : State) (f : ClockFrame) (rest : List LinkInMsg), s.running = true → s.xlc.inbound = .clock f :: rest →
    let d : Date := { year := f.year.toNat, month := f.month.toNat, day := f.day.toNat }
    let good := d.year ≤ 99 ∧ 1 ≤ d.month ∧ d.month ≤ 12 ∧ 1 ≤ d.day ∧ d.day ≤ monthLength d.year d.month ∧
      f.hour.toNat ≤ 23 ∧ f.minute.toNat ≤ 59 ∧ f.second.toNat ≤ 59
    (∀ t, f.dayType = code (DayType.code t) → good → exec .clock s = .next { s.linkTaken rest with tb :=
      { date := d, dayType := t, trusted := true, untrust := some 1200,
        time := { hour := f.hour.toNat, minute := f.minute.toNat, second := f.second.toNat, tenth := 0 } } }.refreshAttn) ∧
    ((∀ t, f.dayType ≠ code (DayType.code t)) ∨ ¬good → exec .clock s = .next (s.linkTaken rest).refreshAttn)) ∧
  ∀ s : State, s.running = true → s.tb.untrust = some 0 → exec .untrustTimerExpiry s =
    .next { s with tb := { s.tb with trusted := false, untrust := none } }.refreshAttn

/-- R122, R129, R1: a tenth of elapsed time: the time of day and at midnight the date go on, the day type stays, and every
running timer has a tenth less left (log 3). -/
def Obligations.TickOfElapsedTime : Prop :=
  ∀ s : State, s.running = true → ∃ t, exec .timeOfDayTick s = .next t ∧ t.elapsed = s.elapsed + 1 ∧
    (s.tb.Legal →
      let tenths := fun (d : TimeOfDay) => ((d.hour * 60 + d.minute) * 60 + d.second) * 10 + d.tenth
      (tenths s.tb.time + 1 < 864000 → tenths t.tb.time = tenths s.tb.time + 1 ∧ t.tb.date = s.tb.date) ∧
      (tenths s.tb.time + 1 = 864000 → tenths t.tb.time = 0 ∧
        t.tb.date =
          if s.tb.date = Date.zero then Date.zero
          else if s.tb.date.day < monthLength s.tb.date.year s.tb.date.month then { s.tb.date with day := s.tb.date.day + 1 }
          else if s.tb.date.month < 12 then { s.tb.date with month := s.tb.date.month + 1, day := 1 }
          else { year := (s.tb.date.year + 1) % 100, month := 1, day := 1 })) ∧
    t.tb.dayType = s.tb.dayType ∧ t.tb.trusted = s.tb.trusted ∧ t.tb.untrust = s.tb.untrust.map (· - 1) ∧
    t.xlc = { s.xlc with silence := s.xlc.silence.map (· - 1) } ∧
    (∀ i, t.station i = { s.station i with
      answerTimer := (s.station i).answerTimer.map (· - 1), releaseTimer := (s.station i).releaseTimer.map (· - 1),
      headTimer := (s.station i).headTimer.map (· - 1) }) ∧
    (∀ i, t.order i = (s.order i).map fun o => match o.state with
      | .sending => o
      | .awaiting n => { o with state := .awaiting (n - 1) }) ∧
    t.ct.cards = (s.ct.cards.map fun r => match r.state with
      | .active _ => r
      | .remembered n => { r with state := .remembered (n - 1) }) ∧
    t = { s with elapsed := t.elapsed, tb := t.tb, xlc := t.xlc, cc := t.cc,
                 de := { s.de with orders := t.de.orders }, ct := { s.ct with cards := t.ct.cards } }

/-- R173, R23: the silence timer expires (none left: log 3): the link is DOWN, its queue is emptied (a frame in transmission is sent on), and
each station acts in ascending order: SETUP and TALK clear with LINK_DOWN without CALL_CLEAR, and CLEARING is released. -/
def Obligations.SilenceExpires : Prop :=
  (∀ s : State, s.running = true → s.xlc.link = .up → s.xlc.silence = some 0 →
    exec .silenceTimerExpiry s = .next ((stationIds.foldl State.linkDownStation { s with xlc :=
      { s.xlc with link := .down, silence := none, outbound := [],
                   detached := match s.xlc.detached with
                     | some m => some m
                     | none => s.xlc.outbound.head? } }).refreshAttn)) ∧
  ∀ (s : State) (i : StationId),
    ((s.station i).state = .idle ∨ (s.station i).state = .ready ∨ (s.station i).state = .outOfService →
      s.linkDownStation i = s) ∧
    ∀ x, (s.station i).context = some x →
      ((s.station i).state = .setup ∨ (s.station i).state = .talk → s.linkDownStation i =
        ((s.setStation i { s.station i with
          state := .clearing, intervals := [], answerTimer := none, headTimer := none, releaseTimer := none,
          context := some { x with
            endCause := some .linkDown, released := true, orderResolved := some (s.order i).isNone,
            talkDuration := if (s.station i).state = .talk then some (s.elapsed - x.answerMark.getD s.elapsed)
              else x.talkDuration } }).tellStation i (.callEnded .linkDown)).completeIfDone i) ∧
      ((s.station i).state = .clearing →
        (x.released = true → s.linkDownStation i = s) ∧
        (x.released = false → s.linkDownStation i =
          (s.setStation i { s.station i with
            context := some { x with released := true }, releaseTimer := none }).completeIfDone i))

/-! ## Tariffs -/

/-- R107: the lookup gives the action of the longest matching prefix, and no match when no slot matches. -/
def Obligations.LongestPrefixDecides : Prop :=
  ∀ (x : Bank) (dialled : List Digit),
    ((∀ e ∈ x.prefixes, ¬e.2.digits <+: dialled) → x.lookup dialled = none) ∧
    ((x.prefixes.map fun e => e.2.digits).Nodup → ∀ e ∈ x.prefixes, e.2.digits <+: dialled →
      (∀ f ∈ x.prefixes, f.2.digits <+: dialled → f.2.digits.length ≤ e.2.digits.length) →
      x.lookup dialled = some e.2.action)

/-- R112, R126, R127: the period of a price: by the calendar of the day type while the clock is trusted; while it is not, the
period of the greatest ratio of units to length, the lower on a tie. -/
def Obligations.PeriodOfAPrice : Prop :=
  (∀ (s : State) (x : BankId) (b : Band), s.tb.trusted = true →
    s.period x b = (s.bank x).calendarPeriod s.tb.dayType (s.tb.time.hour * 60 + s.tb.time.minute)) ∧
  (∀ (x : Bank) (d : DayType) (m : Nat),
    let slots := (x.calendar.filter fun e => e.1 / 8 == d.code).map Prod.snd
    ((slots.map CalendarSlot.minute).Nodup → ∀ c ∈ slots, c.minute ≤ m →
      (∀ e ∈ slots, e.minute ≤ m → e.minute ≤ c.minute) → x.calendarPeriod d m = c.period) ∧
    ((slots.map CalendarSlot.minute).Nodup → (∀ e ∈ slots, m < e.minute) → ∀ c ∈ slots,
      (∀ e ∈ slots, e.minute ≤ c.minute) → x.calendarPeriod d m = c.period) ∧
    (slots = [] → x.calendarPeriod d m = 0)) ∧
  ∀ (s : State) (x : BankId) (b : Band), s.tb.trusted = false →
    (∀ p, ∃ e, (s.bank x).bandEntry b p = some e ∧ 1 ≤ e.length) →
    let e := fun p => (s.bank x).price b p
    let best := s.period x b
    (∀ q, (e q).units * (e best).length ≤ (e best).units * (e q).length) ∧
    ∀ q, q < best → (e q).units * (e best).length < (e best).units * (e q).length

/-- R114, R115, R116, R183: ACTIVATE_BANK and SET_SERVICE by the present states. -/
def Obligations.ActivationAndService : Prop :=
  (∀ (s : State) (x : BankId), let byte : Byte := match x with | .a => 1 | .b => 2
    ((s.bank x).state = .active → activateBank [byte] s = ⟨.done, .nothing, s⟩) ∧
    ((s.bank x).state = .draining → activateBank [byte] s = ⟨.bankBusy, .nothing, s⟩) ∧
    ((s.bank x).state = .empty → activateBank [byte] s = ⟨.invalid, .nothing, s⟩) ∧
    ((s.bank x).state = .standby →
      let valid := (s.bank x).prefixes ≠ [] ∧ ∀ e ∈ (s.bank x).prefixes, ∀ b, e.2.action = .band b →
        ∀ p, (s.bank x).bandEntry b p ≠ none
      (¬valid → activateBank [byte] s = ⟨.invalid, .nothing, s⟩) ∧
      (valid → activateBank [byte] s = ⟨.done, .nothing,
        (s.setBank x { s.bank x with state := .active }).setBank x.other { s.bank x.other with
          state := if (s.bank x.other).state = .active then
            (if 0 < (s.bank x.other).pins then .draining else .standby) else (s.bank x.other).state }⟩))) ∧
  (∀ (s : State) (b : Byte), b ≠ 1 → b ≠ 2 → activateBank [b] s = ⟨.range, .nothing, s⟩) ∧
  ∀ s : State,
    (s.mu.service = .opened → setService [1] s = ⟨.done, .nothing, s⟩) ∧
    (s.mu.service = .closed → setService [0] s = ⟨.done, .nothing, s⟩) ∧
    (s.mu.service = .closed → s.activeBank = none → setService [1] s = ⟨.invalid, .nothing, s⟩) ∧
    (s.mu.service = .closed → s.activeBank ≠ none → setService [1] s = ⟨.done, .nothing,
      { s with mu := { s.mu with service := .opened } }.offerRow ⟨.broadcast, .service .opened, .mu⟩⟩) ∧
    (s.mu.service = .opened → setService [0] s = ⟨.done, .nothing,
      { s with mu := { s.mu with service := .closed } }.offerRow ⟨.broadcast, .service .closed, .mu⟩⟩) ∧
    ∀ b : Byte, b ≠ 0 → b ≠ 1 → setService [b] s = ⟨.range, .nothing, s⟩

/-! ## Management -/

/-- R177, R178: each request is taken, executed by its rule, and answered once, with its name and its reference number; a
request of another name is answered UNKNOWN; one of the wrong length LENGTH, with nothing changed (a
WRITE_ENTRIES with no count byte too: log 22). -/
def Obligations.EveryRequestAnsweredOnce : Prop :=
  ∀ (s : State) (ref : Byte) (data : List Byte) (rest : List LinkInMsg), s.running = true →
    let head := fun (name : Byte) => s.xlc.inbound = .mgmtRequest name ref data :: rest
    let answered := fun (c : Instr) (name : Byte) (a : Answer) =>
      exec c s = .next (a.state.offerLink (.mgmtReply name ref a.status a.body))
    let s1 := s.linkTaken rest
    let wrong := fun (a : Answer) => a = ⟨.length, .nothing, s1⟩
    (head 0x01 → answered .selectPage 0x01 (selectPage data s1)) ∧
    (head 0x02 → answered .writeEntries 0x02 (writeEntries data s1)) ∧
    (head 0x03 → answered .readEntries 0x03 (readEntries data s1)) ∧
    (head 0x04 → answered .activateBank 0x04 (activateBank data s1)) ∧
    (head 0x05 → answered .setService 0x05 (setService data s1)) ∧
    (head 0x06 → answered .setStation 0x06 (setStation data s1)) ∧
    (head 0x07 → answered .readStation 0x07 (readStation data s1)) ∧
    (head 0x08 → answered .readStatus 0x08 (readStatus data s1)) ∧
    (head 0x09 → answered .fetchRecord 0x09 (fetchRecord data s1)) ∧
    (head 0x0A → answered .releaseRecords 0x0A (releaseRecords data s1)) ∧
    (head 0x0B → answered .removeAutobar 0x0B (removeAutobar data s1)) ∧
    (head 0x0C → answered .restartLine 0x0C (restartLine data s1)) ∧
    (∀ name : Byte, name = 0 ∨ 0x0C < name → head name →
      answered .mgmtRequestUnknown name ⟨.unknown, .nothing, s1⟩) ∧
    (data.length ≠ 3 → wrong (selectPage data s1) ∧ wrong (setStation data s1)) ∧
    (data.length ≠ 1 → wrong (readEntries data s1) ∧ wrong (activateBank data s1) ∧ wrong (setService data s1) ∧
      wrong (readStation data s1) ∧ wrong (fetchRecord data s1)) ∧
    (data.length ≠ 0 → wrong (readStatus data s1) ∧ wrong (restartLine data s1)) ∧
    (data.length ≠ 4 → wrong (releaseRecords data s1) ∧ wrong (removeAutobar data s1)) ∧
    (data = [] → wrong (writeEntries data s1)) ∧
    ∀ n bytes, data = n :: bytes → bytes.length ≠ n.toNat * s.mu.selector.entrySize → wrong (writeEntries data s1)

/-- R179, 11.3: SELECT_PAGE takes exactly the combinations of the table, and puts the pointer back to 0; the offsets of a page,
the slot that page and offset address, and the entry size of each table. -/
def Obligations.PageSelected : Prop :=
  (∀ (s : State) (table bank page : Byte),
    let chosen := fun (sel : Selector) =>
      selectPage [table, bank, page] s = ⟨.done, .nothing, { s with mu := { s.mu with selector := sel, pointer := 0 } }⟩
    let x := if bank = 1 then BankId.a else BankId.b
    (table = 1 → bank = 0 → ∀ k : Fin 32, page = code k.val → chosen (.hot k)) ∧
    (table = 2 → bank = 0 → page = 0 → chosen .batch) ∧
    (table = 3 → bank = 1 ∨ bank = 2 → ∀ k : Fin 8, page = code k.val → chosen (.prefixes x k)) ∧
    (table = 4 → bank = 1 ∨ bank = 2 → page = 0 → chosen (.bands x)) ∧
    (table = 5 → bank = 1 ∨ bank = 2 → page = 0 → chosen (.calendar x)) ∧
    (table = 6 → bank = 0 → page = 0 → chosen .autobar) ∧
    (¬((table = 1 ∧ bank = 0 ∧ page < 32) ∨ (table = 3 ∧ (bank = 1 ∨ bank = 2) ∧ page < 8) ∨
        ((table = 2 ∨ table = 6) ∧ bank = 0 ∧ page = 0) ∨ ((table = 4 ∨ table = 5) ∧ (bank = 1 ∨ bank = 2) ∧ page = 0)) →
      selectPage [table, bank, page] s = ⟨.range, .nothing, s⟩)) ∧
  (∀ k, (Selector.hot k).offsets = 64 ∧ ∀ n, (Selector.hot k).slot n = k.val * 64 + n) ∧
  (∀ x k, (Selector.prefixes x k).offsets = 64 ∧ ∀ n, (Selector.prefixes x k).slot n = k.val * 64 + n) ∧
  (Selector.batch.offsets = 64 ∧ Selector.autobar.offsets = 32) ∧
  (∀ n, Selector.batch.slot n = n ∧ Selector.autobar.slot n = n) ∧
  ∀ x, (Selector.bands x).offsets = 64 ∧ (Selector.calendar x).offsets = 24 ∧
    ∀ n, (Selector.bands x).slot n = n ∧ (Selector.calendar x).slot n = n

/-- R180, R182, 11.3: the entry sizes; a request's bytes are cut into entries of the size; they are written one at a time from
the pointer on, until the first refusal; reads go on from the pointer with the same wrap, each entry as its table holds it, and
change no table. -/
def Obligations.PointerWalksThePage : Prop :=
  ((∀ k, (Selector.hot k).entrySize = 10) ∧ Selector.batch.entrySize = 6 ∧ (∀ x k, (Selector.prefixes x k).entrySize = 9) ∧
    (∀ x, (Selector.bands x).entrySize = 5 ∧ (Selector.calendar x).entrySize = 4) ∧ Selector.autobar.entrySize = 5) ∧
  ((∀ size bytes, splitEntries size 0 bytes = []) ∧
    ∀ size n (entry bytes : List Byte), entry.length = size →
      splitEntries size (n + 1) (entry ++ bytes) = entry :: splitEntries size n bytes) ∧
  ∀ s : State,
    let moved := fun (t : State) => { t with mu := { t.mu with
      pointer := if t.mu.pointer + 1 < t.mu.selector.offsets then t.mu.pointer + 1 else 0 } }
    (∀ n : Byte, ∀ bytes, bytes.length = n.toNat * s.mu.selector.entrySize → n.toNat = 0 ∨ 4 < n.toNat →
      writeEntries (n :: bytes) s = ⟨.range, .nothing, s⟩) ∧
    (∀ n : Byte, ∀ bytes, bytes.length = n.toNat * s.mu.selector.entrySize → 1 ≤ n.toNat → n.toNat ≤ 4 →
      writeEntries (n :: bytes) s = s.writeAll (splitEntries s.mu.selector.entrySize n.toNat bytes) 0) ∧
    (∀ k, s.writeAll [] k = ⟨.done, .written k, s⟩) ∧
    (∀ e es k t, s.writeEntry e = (.done, t) → s.writeAll (e :: es) k = (moved t).writeAll es (k + 1)) ∧
    (∀ e es k st t, s.writeEntry e = (st, t) → st ≠ .done → t = s ∧ s.writeAll (e :: es) k = ⟨st, .written k, s⟩) ∧
    (∀ n : Byte, n.toNat = 0 ∨ 4 < n.toNat → readEntries [n] s = ⟨.range, .nothing, s⟩) ∧
    (∀ n : Byte, 1 ≤ n.toNat → n.toNat ≤ 4 →
      readEntries [n] s = ⟨.done, .entries (s.readAll n.toNat).1, (s.readAll n.toNat).2⟩) ∧
    s.readAll 0 = ([], s) ∧
    (∀ n, s.readAll (n + 1) = (s.readEntry :: ((moved s).readAll n).1, ((moved s).readAll n).2)) ∧
    let k := s.mu.selector.slot s.mu.pointer
    (∀ page, s.mu.selector = .hot page → s.readEntry = .hot (SlotTable.read k s.ct.hot)) ∧
    (s.mu.selector = .batch → s.readEntry = .batch (SlotTable.read k s.ct.batches)) ∧
    (s.mu.selector = .autobar → s.readEntry = .autobar s.ct.autobar[k]?) ∧
    ∀ x, (∀ page, s.mu.selector = .prefixes x page → s.readEntry = .prefixes (SlotTable.read k (s.bank x).prefixes)) ∧
      (s.mu.selector = .bands x → s.readEntry = .bands (SlotTable.read k (s.bank x).bands)) ∧
      (s.mu.selector = .calendar x → s.readEntry = .calendar (SlotTable.read k (s.bank x).calendar))

/-- R181, R61, R62, R74, R104, R106, R109, R111: one entry judged by the owner of its table, and stored in the slot at the
pointer; a range written to the hot list bars, in ascending order of station number, each card ACTIVE at the station whose
serial lies in it, with the code written. -/
def Obligations.EntryJudgedAndStored : Prop :=
  (∀ (s : State) (h : HotRange), ∃ bar : State → StationId → State, s.barRange h = stationIds.foldl bar s ∧
    ∀ (t : State) (i : StationId),
      (∀ r ∈ t.ct.cards, r.state = .active i → h.first ≤ r.serial → r.serial ≤ h.last →
        (∀ q ∈ t.ct.cards, q.state = .active i → q = r) → bar t i = t.barCard i r.serial h.code) ∧
      ((∀ r ∈ t.ct.cards, r.state = .active i → ¬(h.first ≤ r.serial ∧ r.serial ≤ h.last)) → bar t i = t)) ∧
  stationIds = List.finRange 48 ∧
  ∀ (s : State) (bytes : List Byte),
    let k := s.mu.selector.slot s.mu.pointer
    (∀ page, s.mu.selector = .hot page → s.writeEntry bytes =
      match readHot bytes with
      | .outOfRange => (.range, s)
      | .empty => (.done, { s with ct := { s.ct with hot := SlotTable.write k none s.ct.hot } })
      | .content h =>
        if h.last < h.first then (.order, s)
        else (.done, { s with ct := { s.ct with hot := SlotTable.write k (some h) s.ct.hot } }.barRange h)) ∧
    (s.mu.selector = .batch → s.writeEntry bytes =
      match readBatch bytes with
      | .outOfRange => (.range, s)
      | .empty => (.done, { s with ct := { s.ct with batches := SlotTable.write k none s.ct.batches } })
      | .content e =>
        if ∃ p ∈ s.ct.batches, p.1 ≠ k ∧ p.2.batch = e.batch then (.duplicate, s)
        else (.done, { s with ct := { s.ct with batches := SlotTable.write k (some e) s.ct.batches } })) ∧
    (s.mu.selector = .autobar → s.writeEntry bytes = (.range, s)) ∧
    ∀ x, let b := s.bank x
      let open' := if b.state = .empty then BankState.standby else b.state
      (b.state = .active ∨ b.state = .draining →
        (∀ page, s.mu.selector = .prefixes x page → s.writeEntry bytes = (.bankBusy, s)) ∧
        (s.mu.selector = .bands x → s.writeEntry bytes = (.bankBusy, s)) ∧
        (s.mu.selector = .calendar x → s.writeEntry bytes = (.bankBusy, s))) ∧
      (b.state = .empty ∨ b.state = .standby →
        (∀ page, s.mu.selector = .prefixes x page → s.writeEntry bytes =
          let stored := fun o => s.setBank x { b with state := open', prefixes := SlotTable.write k o b.prefixes }
          match readPrefix bytes with
          | .outOfRange => (.range, s)
          | .empty => (.done, stored none)
          | .content e =>
            if ∃ p ∈ b.prefixes, p.1 ≠ k ∧ p.2.digits = e.digits then (.duplicate, s) else (.done, stored (some e))) ∧
        (s.mu.selector = .bands x → s.writeEntry bytes =
          let stored := fun o => s.setBank x { b with state := open', bands := SlotTable.write k o b.bands }
          match readBand bytes with
          | .outOfRange => (.range, s)
          | .empty => (.done, stored none)
          | .content e => (.done, stored (some e))) ∧
        (s.mu.selector = .calendar x → s.writeEntry bytes =
          let stored := fun o => s.setBank x { b with state := open', calendar := SlotTable.write k o b.calendar }
          match readCalendar bytes with
          | .outOfRange => (.range, s)
          | .empty => (.done, stored none)
          | .content e =>
            if ∃ p ∈ b.calendar, p.1 ≠ k ∧ p.1 / 8 = k / 8 ∧ p.2.minute = e.minute then (.duplicate, s)
            else (.done, stored (some e))))

/-- R61, R62, R106, R109, R111, R182, R190, 11.3: an entry offered reads as content exactly when its bytes are the layout of
an entry in range, use byte 01h first; use byte 00h is empty, whatever follows; everything else is out of range. READ_ENTRIES
returns the same layout, and an empty slot as bytes of 0. That the first serial of a HOT range is not above the last is judged
after (ORDER, R62). -/
def Obligations.EntriesReturnedAsWritten : Prop :=
  let hot := fun (h : HotRange) => fourBytes h.first.toNat ++ fourBytes h.last.toNat ++ [h.code]
  let batch := fun (e : BatchEntry) => twoBytes e.batch ++ twoBytes e.face ++
    [match e.standing with | .current => (0x00 : Byte) | .withdrawn => 0x01]
  let prefixes := fun (e : PrefixEntry) => [code e.digits.length] ++ packDigits e.digits ++
    List.replicate (5 - (packDigits e.digits).length) (0xFF : Byte) ++
    match e.action with
    | .band b => [0x01, code b.val]
    | .free => [0x02, 0x00]
    | .barred => [0x03, 0x00]
  let band := fun (e : BandEntry) => twoBytes e.length ++ [code e.units, code e.setup]
  let calendar := fun (c : CalendarSlot) => twoBytes c.minute ++ [code c.period.val]
  ReadsExactly 10 readHot (fun h => h.code ≠ 0) hot ∧
  ReadsExactly 6 readBatch BatchEntry.InRange batch ∧
  ReadsExactly 9 readPrefix PrefixEntry.InRange prefixes ∧
  ReadsExactly 5 readBand BandEntry.InRange band ∧
  ReadsExactly 4 readCalendar CalendarSlot.InRange calendar ∧
  (∀ h, (PageEntry.hot (some h)).bytes = 0x01 :: hot h) ∧
  (∀ e : BatchEntry, e.InRange → (PageEntry.batch (some e)).bytes = 0x01 :: batch e) ∧
  (∀ e : PrefixEntry, e.InRange → (PageEntry.prefixes (some e)).bytes = 0x01 :: prefixes e) ∧
  (∀ e : BandEntry, e.InRange → (PageEntry.bands (some e)).bytes = 0x01 :: band e) ∧
  (∀ c : CalendarSlot, c.InRange → (PageEntry.calendar (some c)).bytes = 0x01 :: calendar c) ∧
  (∀ x : Serial, (PageEntry.autobar (some x)).bytes = 0x01 :: fourBytes x.toNat) ∧
  (PageEntry.hot none).bytes = List.replicate 10 0 ∧ (PageEntry.batch none).bytes = List.replicate 6 0 ∧
  (PageEntry.prefixes none).bytes = List.replicate 9 0 ∧ (PageEntry.bands none).bytes = List.replicate 5 0 ∧
  (PageEntry.calendar none).bytes = List.replicate 4 0 ∧ (PageEntry.autobar none).bytes = List.replicate 5 0

/-- R185, R95, R186, R139, 11.3, 11.5: the three requests that read change nothing, and return what stands; and the data of each
reply, byte by byte, where the numbers fit their fields (log 18). -/
def Obligations.StateReadBack : Prop :=
  (∀ (s : State) (i : StationId), readStation [code (i.val + 1)] s = ⟨.done, .station {
    station := i, state := (s.station i).state, cls := (s.station i).cls, card := (s.station i).card,
    thenOut := (s.station i).thenOut, outReason := (s.station i).outReason, failures := s.de.failures.get i,
    order := s.order i }, s⟩) ∧
  (∀ (s : State) (b : Byte), b = 0 ∨ 48 < b → readStation [b] s = ⟨.range, .nothing, s⟩) ∧
  (∀ s : State, readStatus [] s = ⟨.done, .status {
    service := s.mu.service, stateA := (s.bank .a).state, pinsA := (s.bank .a).pins, stateB := (s.bank .b).state,
    pinsB := (s.bank .b).pins, link := s.xlc.link, trusted := s.tb.trusted, stored := s.rq.records.length,
    reservations := s.rq.reservations, retained := s.rq.retained, autobarCount := s.ct.autobar.length }, s⟩) ∧
  (∀ (s : State) (p : Byte),
    (3 < p.toNat → fetchRecord [p] s = ⟨.range, .nothing, s⟩) ∧
    (p.toNat ≤ 3 → s.rq.records.length ≤ p.toNat → fetchRecord [p] s = ⟨.empty, .nothing, s⟩) ∧
    (p.toNat ≤ 3 → ∀ r, s.rq.records[p.toNat]? = some r → fetchRecord [p] s = ⟨.done, .record r, s⟩)) ∧
  (ReplyBody.nothing.bytes = [] ∧ (∀ n, n < 256 → (ReplyBody.written n).bytes = [code n]) ∧
    (∀ es, es.length < 256 → (ReplyBody.entries es).bytes = code es.length :: es.flatMap PageEntry.bytes) ∧
    ∀ removed left, removed < 65536 → left < 65536 →
      (ReplyBody.released removed left).bytes = twoBytes removed ++ twoBytes left) ∧
  (∀ r : CallRecord, r.Fits → ∃ flags : Byte,
    [flags.getLsbD 0, flags.getLsbD 1, flags.getLsbD 2, flags.getLsbD 3, flags.getLsbD 4, flags.getLsbD 5, flags.getLsbD 6,
        flags.getLsbD 7] =
      [r.card.isSome, r.atAnswer.isSome, r.unresolved.isSome, r.charged, decide (r.bank = .b), r.answered, r.openTime.trusted,
        false] ∧
    (ReplyBody.record r).bytes =
      fourBytes r.number ++ [code (r.station.val + 1), flags] ++
      (match r.card with
        | some (x, batch) => fourBytes x.toNat ++ twoBytes batch
        | none => List.replicate 6 (0 : Byte)) ++
      [code r.dialled.length] ++ packDigits r.dialled ++ List.replicate (8 - (packDigits r.dialled).length) (0xFF : Byte) ++
      [match r.atAnswer with
        | some (band, period) => code (band.val * 16 + period.val)
        | none => (0 : Byte)] ++
      [code r.openTime.date.year, code r.openTime.date.month, code r.openTime.date.day,
        match r.openTime.dayType with
        | .weekday => (0x00 : Byte)
        | .weekend => 0x01
        | .holiday => 0x02,
        code r.openTime.time.hour, code r.openTime.time.minute, code r.openTime.time.second] ++
      fourBytes r.talkDuration ++ twoBytes r.intervalsBegun ++ twoBytes r.unitsBurned ++ twoBytes (r.unresolved.getD 0) ++
      match r.endCause with
      | .exchangeClear b => [0x03, b]
      | c => [c.code, 0]) ∧
  (∀ r : CallRecord, r.Fits → r.dialled.length ≤ 16 → (ReplyBody.record r).bytes.length = 41) ∧
  (∀ v : StatusView, v.pinsA < 256 → v.pinsB < 256 → v.stored < 65536 → v.reservations < 256 → v.autobarCount < 256 →
    (ReplyBody.status v).bytes =
      [v.service.code, v.stateA.code, code v.pinsA, v.stateB.code, code v.pinsB, v.link.code, if v.trusted then 0x01 else 0x00] ++
      twoBytes v.stored ++ [code v.reservations, if v.retained then 0x01 else 0x00, code v.autobarCount]) ∧
  (∀ v : StationView, v.cls < 256 → v.failures < 256 → (∀ o, v.order = some o → o.tag < 256 ∧ o.units < 65536) →
    ∃ flags : Byte,
      [flags.getLsbD 0, flags.getLsbD 1, flags.getLsbD 2, flags.getLsbD 3, flags.getLsbD 4, flags.getLsbD 5, flags.getLsbD 6,
          flags.getLsbD 7] =
        [v.card.isSome, v.thenOut, v.outReason.isSome, decide (v.outReason = some .takenOut), v.order.isSome,
          decide (v.order.map BurnOrder.settled = some true), false, false] ∧
      (ReplyBody.station v).bytes =
        [code (v.station.val + 1), v.state.code, code v.cls, flags] ++
        (match v.card with
          | some x => fourBytes x.toNat
          | none => List.replicate 4 (0 : Byte)) ++ [code v.failures] ++
        match v.order with
        | some o => [code o.tag] ++ fourBytes o.serial.toNat ++ twoBytes o.units ++ [o.purpose.code, o.state.code]
        | none => List.replicate 9 (0 : Byte)) ∧
  [StationState.idle, .ready, .setup, .talk, .clearing, .outOfService].map StationState.code = [0, 1, 2, 3, 4, 5] ∧
  [BankState.empty, .standby, .active, .draining].map BankState.code = [0, 1, 2, 3] ∧
  [Service.closed, .opened].map Service.code = [0, 1] ∧ [LinkState.down, .up].map LinkState.code = [0, 1] ∧
  [Purpose.opening, .replenish].map Purpose.code = [0, 1] ∧ OrderState.sending.code = 0 ∧ ∀ n, (OrderState.awaiting n).code = 1

/-- R140, R141, R63: RELEASE_RECORDS and REMOVE_AUTOBAR. -/
def Obligations.RecordsReleasedAndSerialUnbarred : Prop :=
  (∀ (s : State) (a b c d : Byte),
    let n := (a ++ b ++ c ++ d).toNat
    let left := s.rq.records.filter fun r => decide (n < r.number)
    releaseRecords [a, b, c, d] s = ⟨.done, .released (s.rq.records.length - left.length) left.length,
      { s with rq := { s.rq with
        records := left,
        store := { records := left, nextNumber := s.rq.nextNumber, checkAgrees := true, vbakHeld := true } } }.refreshAttn⟩) ∧
  ∀ (s : State) (a b c d : Byte),
    let x := a ++ b ++ c ++ d
    (x ∉ s.ct.autobar → removeAutobar [a, b, c, d] s = ⟨.notFound, .nothing, s⟩) ∧
    (x ∈ s.ct.autobar → removeAutobar [a, b, c, d] s = ⟨.done, .nothing, { s with ct := { s.ct with
      autobar := s.ct.autobar.erase x,
      cards := s.ct.cards.map fun r => if r.serial = x then { r with strikes := 0 } else r } }⟩)

/-- R188, R189, R28, R98, R119, R143, R175: what a line restart leaves in every block, of a running part whose calls, banks
and store are as the invariants say: no pin, no reservation and no DRAINING bank, an ACTIVE bank still ACTIVE, one record per
call in ascending order of station under consecutive numbers, and the retained store current. A link frame in transmission is
`detached` (log 14). -/
def Obligations.LineRestart : Prop :=
  ∀ s : State, s.running = true → s.CallsCounted → s.BanksLegal → s.StoreCurrent →
    let t := (restartLine [] s).state
    let calls := stationIds.filter fun i => (s.station i).context.isSome
    let after := fun n : Nat => if n < 4294967295 then n + 1 else 1
    (restartLine [] s).status = .done ∧ (restartLine [] s).body = .nothing ∧
    (∀ i, t.station i = { s.station i with
      state := if (s.station i).thenOut = true ∨ (s.station i).state = .outOfService then .outOfService else .idle,
      card := none, context := none, intervals := [], thenOut := false,
      answerTimer := none, releaseTimer := none, headTimer := none }) ∧
    (∀ i, t.order i = none) ∧ t.de = { s.de with orders := t.de.orders, retired := [] } ∧
    t.ct = { s.ct with cards := [] } ∧
    t.rlc = { s.rlc with inbound := [], outbound := [], sending := .empty, attempts := 0 } ∧
    t.xlc = { s.xlc with
      inbound := [], outbound := [],
      detached := match s.xlc.detached with
        | some m => some m
        | none => s.xlc.outbound.head? } ∧
    (∀ x, t.bank x = { s.bank x with
      pins := 0, state := if (s.bank x).state = .draining then .standby else (s.bank x).state }) ∧
    (∃ new, t.rq.records = s.rq.records ++ new ∧ new.map CallRecord.station = calls ∧
      ∀ (k : Nat) (r : CallRecord) (x : CallContext), new[k]? = some r → (s.station r.station).context = some x → r = {
        number := after^[k] s.rq.nextNumber, station := r.station, card := x.card, dialled := x.dialled,
        charged := decide (x.kind ≠ .free), bank := x.bank, atAnswer := x.atAnswer, openTime := x.openTime,
        answered := x.answered,
        talkDuration := if (s.station r.station).state = .talk then s.elapsed - x.answerMark.getD s.elapsed
          else x.talkDuration.getD 0,
        intervalsBegun := x.intervalsBegun, unitsBurned := x.unitsBurned,
        unresolved := match s.order r.station with
          | some o => some (x.unresolved.getD 0 + o.units)
          | none => x.unresolved,
        endCause := .restart }) ∧
    t.rq = { s.rq with
      records := t.rq.records, nextNumber := after^[calls.length] s.rq.nextNumber, reservations := 0,
      store := { records := t.rq.records, nextNumber := t.rq.nextNumber, checkAgrees := true, vbakHeld := true } } ∧
    t.pins = { s.pins with attn := t.attnHolds } ∧
    t = { s with pins := t.pins, rlc := t.rlc, xlc := t.xlc, cc := t.cc, ct := t.ct, de := t.de, ts := t.ts, rq := t.rq }

/-! ## What stays true -/

/-- R151, R154, R155, R165, R169, R171. -/
def Obligations.LinesAgreeAlways : Prop := Kept State.LinesAgree

/-- R141, R144, R145, R161, R175; the model's choices are what is held without supply or under RESET (log 7, log 9), and that a
power-up that empties the queue writes the store (log 12). -/
def Obligations.PowerRightAlways : Prop := Kept State.PowerRight

/-- R53, R61, R92, R121, R134. -/
def Obligations.NumbersLegalAlways : Prop := Kept State.NumbersLegal

/-- R61, R62, R99, R104, R106, R109, R111, R180; the canonical form is the model's (log 21). -/
def Obligations.TablesLegalAlways : Prop := Kept State.TablesLegal

/-- R10, R101, R114. -/
def Obligations.BanksLegalAlways : Prop := Kept State.BanksLegal

/-- R2, R4, R99, R135. -/
def Obligations.CallsCountedAlways : Prop := Kept State.CallsCounted

/-- R54. -/
def Obligations.CardsFitAlways : Prop := Kept State.CardsFit

/-- R63, R73. -/
def Obligations.NoBarredCardInUseEver : Prop := Kept State.NoBarredCardInUse

/-- R78, R79, R85. -/
def Obligations.TagsLegalAlways : Prop := Kept State.TagsLegal

/-- Each invariant holds right after reset. -/
def Obligations.InvariantsHoldAtReset : Prop :=
  State.reset.LinesAgree ∧ State.reset.PowerRight ∧ State.reset.NumbersLegal ∧ State.reset.TablesLegal ∧
  State.reset.BanksLegal ∧ State.reset.CallsCounted ∧ State.reset.CardsFit ∧ State.reset.NoBarredCardInUse ∧
  State.reset.TagsLegal

/-- R53: the confirmed units of a record never increase while the record exists. -/
def Obligations.ConfirmedUnitsNeverIncrease : Prop :=
  ∀ (c : Instr) (s t : State), (s.ct.cards.map CardRecord.serial).Nodup → exec c s = .next t →
    ∀ r ∈ s.ct.cards, ∀ r' ∈ t.ct.cards, r'.serial = r.serial → r'.confirmed ≤ r.confirmed

/-- R132, R26: a stored record stays until RELEASE_RECORDS or a power event, and new ones join the tail; a station stays in
OUT_OF_SERVICE with its reason until SET_STATION or a power event. -/
def Obligations.RecordsAndWithdrawalsStay : Prop :=
  ∀ (c : Instr) (s t : State), ofPower c = false → exec c s = .next t →
    (c ≠ .releaseRecords → ∃ new, t.rq.records = s.rq.records ++ new) ∧
    ∀ i, c ≠ .setStation → (s.station i).state = .outOfService →
      (t.station i).state = .outOfService ∧ (t.station i).outReason = (s.station i).outReason

/-- R104, R118: no entry of an ACTIVE or DRAINING bank changes but by a power event. -/
def Obligations.BusyBankEntriesNeverChange : Prop :=
  ∀ (c : Instr) (s t : State) (x : BankId), ofPower c = false → exec c s = .next t →
    (s.bank x).state = .active ∨ (s.bank x).state = .draining →
    (t.bank x).prefixes = (s.bank x).prefixes ∧ (t.bank x).bands = (s.bank x).bands ∧
      (t.bank x).calendar = (s.bank x).calendar

end
end

