-- ==== Sys2Proof/Laws/Values.lean ====
section
/-! SUPPORT. The two containers: one value per station, and slot tables in their canonical form (log 21). -/

namespace Sys2Proof.Machine

/-! ## One value per station -/

@[simp] theorem PerStation.get_fill {α : Type} (a : α) (i : StationId) : (PerStation.fill a).get i = a := by
  simp only [PerStation.get, PerStation.fill, List.getElem_replicate]

@[simp] theorem PerStation.get_set_same {α : Type} (v : PerStation α) (i : StationId) (a : α) : (v.set i a).get i = a := by
  simp [PerStation.get, PerStation.set]

theorem PerStation.get_set_other {α : Type} (v : PerStation α) (i j : StationId) (a : α) (h : j ≠ i) :
    (v.set i a).get j = v.get j := by
  have hv : i.val ≠ j.val := fun e => h (Fin.ext e.symm)
  simp [PerStation.get, PerStation.set, hv]

theorem PerStation.get_set {α : Type} (v : PerStation α) (i j : StationId) (a : α) :
    (v.set i a).get j = if j = i then a else v.get j := by
  by_cases h : j = i
  · subst h; simp
  · simp [PerStation.get_set_other v i j a h, h]

@[simp] theorem PerStation.get_map {α β : Type} (f : α → β) (v : PerStation α) (i : StationId) :
    (v.map f).get i = f (v.get i) := by
  simp [PerStation.get, PerStation.map]

@[simp] theorem PerStation.set_set {α : Type} (v : PerStation α) (i : StationId) (a b : α) :
    (v.set i a).set i b = v.set i b := by
  simp [PerStation.set]

@[simp] theorem PerStation.set_get {α : Type} (v : PerStation α) (i : StationId) : v.set i (v.get i) = v := by
  cases v
  simp [PerStation.set, PerStation.get]

/-- Two families of values that agree at every station are equal. -/
theorem PerStation.ext_get {α : Type} (v w : PerStation α) (h : ∀ i, v.get i = w.get i) : v = w := by
  obtain ⟨vs, hv⟩ := v
  obtain ⟨ws, hw⟩ := w
  have : vs = ws := by
    apply List.ext_getElem (by omega)
    intro n h1 h2
    have := h ⟨n, by omega⟩
    simpa [PerStation.get] using this
  subst this
  rfl

/-- The values are those read station by station. -/
theorem PerStation.mem_values {α : Type} (v : PerStation α) (a : α) : a ∈ v.values ↔ ∃ i, v.get i = a := by
  constructor
  · intro h
    obtain ⟨n, hn, rfl⟩ := List.getElem_of_mem h
    exact ⟨⟨n, by have := v.size; omega⟩, rfl⟩
  · rintro ⟨i, rfl⟩
    exact List.getElem_mem _

/-- The order of the values is that of the stations. -/
theorem PerStation.values_eq {α : Type} (v : PerStation α) : v.values = stationIds.map v.get := by
  apply List.ext_getElem
  · simp [stationIds, v.size]
  · intro n h1 h2
    simp [stationIds, PerStation.get]

theorem mem_stationIds (i : StationId) : i ∈ stationIds := by simp [stationIds]

theorem stationIds_nodup : stationIds.Nodup := List.nodup_finRange 48

/-! ## Slot tables -/

/-- The slots of a table rise strictly and lie below `size`. -/
theorem SlotTable.wf_iff {α : Type} (size : Nat) (t : SlotTable α) :
    SlotTable.wf size t = true ↔ (t.map Prod.fst).Pairwise (· < ·) ∧ ∀ e ∈ t, e.1 < size := by
  simp [SlotTable.wf]

/-- An entry after a write stood there before, or is the one written. -/
theorem SlotTable.mem_write {α : Type} (k : Nat) (o : Option α) :
    ∀ (t : SlotTable α) (e : Nat × α), e ∈ SlotTable.write k o t → e ∈ t ∨ (e.1 = k ∧ o = some e.2)
  | [], e, h => by
    cases o with
    | none => simp [SlotTable.write] at h
    | some a =>
      have : e = (k, a) := by simpa [SlotTable.write] using h
      subst this
      exact Or.inr ⟨rfl, rfl⟩
  | (j, a) :: t, e, h => by
    unfold SlotTable.write at h
    split at h
    · rcases List.mem_append.1 h with h | h
      · cases o with
        | none => simp at h
        | some b =>
          have : e = (k, b) := by simpa using h
          subst this
          exact Or.inr ⟨rfl, rfl⟩
      · exact Or.inl h
    · split at h
      · rcases List.mem_append.1 h with h | h
        · cases o with
          | none => simp at h
          | some b =>
            have : e = (k, b) := by simpa using h
            subst this
            exact Or.inr ⟨rfl, rfl⟩
        · exact Or.inl (List.mem_cons_of_mem _ h)
      · rcases List.mem_cons.1 h with h | h
        · exact Or.inl (by simp [h])
        · rcases SlotTable.mem_write k o t e h with h | h
          · exact Or.inl (List.mem_cons_of_mem _ h)
          · exact Or.inr h

/-- A write keeps the slots strictly rising. -/
theorem SlotTable.pairwise_write {α : Type} (k : Nat) (o : Option α) :
    ∀ t : SlotTable α, (t.map Prod.fst).Pairwise (· < ·) → ((SlotTable.write k o t).map Prod.fst).Pairwise (· < ·)
  | [], _ => by cases o <;> simp [SlotTable.write]
  | (j, a) :: t, h => by
    have h' := List.pairwise_cons.1 h
    unfold SlotTable.write
    split
    next hk =>
      cases o with
      | none => simpa using h
      | some b =>
        refine List.pairwise_cons.2 ⟨?_, h⟩
        intro n hn
        rcases List.mem_cons.1 hn with hn | hn
        · simpa [hn] using hk
        · exact lt_trans hk (h'.1 n hn)
    next hk =>
      split
      next he =>
        cases o with
        | none => simpa using h'.2
        | some b =>
          refine List.pairwise_cons.2 ⟨?_, h'.2⟩
          intro n hn
          simpa [he] using h'.1 n hn
      next he =>
        refine List.pairwise_cons.2 ⟨?_, SlotTable.pairwise_write k o t h'.2⟩
        intro n hn
        obtain ⟨e, hm, rfl⟩ := List.mem_map.1 hn
        rcases SlotTable.mem_write k o t e hm with hm | hm
        · exact h'.1 e.1 (List.mem_map_of_mem hm)
        · have : e.1 = k := hm.1
          show j < e.1
          omega

/-- A write into a slot of the table keeps the canonical form. -/
theorem SlotTable.wf_write {α : Type} (size k : Nat) (o : Option α) (t : SlotTable α) (h : SlotTable.wf size t = true)
    (hk : k < size) : SlotTable.wf size (SlotTable.write k o t) = true := by
  rw [SlotTable.wf_iff] at h ⊢
  refine ⟨SlotTable.pairwise_write k o t h.1, ?_⟩
  intro e he
  rcases SlotTable.mem_write k o t e he with he | he
  · exact h.2 e he
  · rw [he.1]; exact hk

@[simp] theorem SlotTable.wf_nil {α : Type} (size : Nat) : SlotTable.wf size ([] : SlotTable α) = true := by
  simp [SlotTable.wf]

/-- A slot below every slot of a table is empty. -/
theorem SlotTable.read_below {α : Type} (k : Nat) : ∀ t : SlotTable α, (∀ e ∈ t, k < e.1) → SlotTable.read k t = none
  | [], _ => rfl
  | (j, a) :: t, h => by
    have hj : k < j := h (j, a) (by simp)
    have : ¬j = k := by omega
    simp only [SlotTable.read, this, if_false]
    exact SlotTable.read_below k t fun e he => h e (List.mem_cons_of_mem _ he)

/-- The written slot of a canonical table reads as it was written, and every other slot as before. -/
theorem SlotTable.read_write {α : Type} (k j : Nat) (o : Option α) :
    ∀ t : SlotTable α, (t.map Prod.fst).Pairwise (· < ·) →
      SlotTable.read j (SlotTable.write k o t) = if j = k then o else SlotTable.read j t
  | [], _ => by
    cases o with
    | none => simp [SlotTable.write, SlotTable.read]
    | some b =>
      by_cases hj : j = k
      · subst hj; simp [SlotTable.write, SlotTable.read]
      · have : ¬k = j := fun e => hj e.symm
        simp [SlotTable.write, SlotTable.read, this, hj]
  | (i, a) :: t, h => by
    have h' := List.pairwise_cons.1 h
    have hb : ∀ e ∈ t, i < e.1 := fun e he => h'.1 e.1 (List.mem_map_of_mem he)
    unfold SlotTable.write
    split
    next hk =>
      by_cases hj : j = k
      · subst hj
        cases o with
        | none =>
          have hij : ¬i = j := by omega
          simp only [Option.map_none, Option.toList_none, List.nil_append, SlotTable.read, hij, if_false, if_true]
          exact SlotTable.read_below j t fun e he => lt_trans hk (hb e he)
        | some b => simp [SlotTable.read]
      · have hkj : ¬k = j := fun e => hj e.symm
        cases o <;> simp [SlotTable.read, hkj, hj]
    next hk =>
      split
      next he =>
        subst he
        by_cases hj : j = k
        · subst hj
          cases o with
          | none =>
            simp only [Option.map_none, Option.toList_none, List.nil_append, if_true]
            exact SlotTable.read_below j t hb
          | some b => simp [SlotTable.read]
        · have hkj : ¬k = j := fun e => hj e.symm
          cases o <;> simp [SlotTable.read, hkj, hj]
      next he =>
        by_cases hij : i = j
        · subst hij
          have : ¬i = k := fun e => he e.symm
          simp [SlotTable.read, this]
        · simp only [SlotTable.read, hij, if_false]
          exact SlotTable.read_write k j o t h'.2

end Sys2Proof.Machine
end

