-- ==== Sys2Proof/Laws/Layouts.lean ====
section
/-! SUPPORT. The layouts of 11.1 to 11.5, said once: numbers that fit their field, packed digits, flag bits, the answer symbols,
and the reading of an entry behind its use byte. -/

namespace Sys2Proof.Machine

/-! ## Numbers -/

theorem wireNat_one (n : Nat) (h : n < 256) : wireNat 1 n = [code n] := by simp [wireNat, h, lowBytes, code]

theorem wireNat_two (n : Nat) (h : n < 65536) : wireNat 2 n = twoBytes n := by simp [wireNat, h, lowBytes, code, twoBytes]

theorem wireNat_four (n : Nat) (h : n < 4294967296) : wireNat 4 n = fourBytes n := by
  simp [wireNat, h, lowBytes, code, fourBytes]

/-- A serial always fits its four bytes. -/
@[simp] theorem wireNat_serial (x : Serial) : wireNat 4 x.toNat = fourBytes x.toNat := wireNat_four _ x.isLt

@[simp] theorem twoBytes_length (n : Nat) : (twoBytes n).length = 2 := rfl

@[simp] theorem fourBytes_length (n : Nat) : (fourBytes n).length = 4 := rfl

/-- Two serials of the same four bytes are equal. -/
theorem fourBytes_inj (x y : Serial) (h : fourBytes x.toNat = fourBytes y.toNat) : x = y := by
  have hx := x.isLt
  have hy := y.isLt
  simp only [fourBytes, code, List.cons.injEq, and_true, ← BitVec.toNat_inj, BitVec.toNat_ofNat] at h
  exact BitVec.eq_of_toNat_eq (by omega)

/-! ## Digits -/

/-- Two digits to a byte. -/
@[simp] theorem packDigits_length (ds : List Digit) : (packDigits ds).length = (ds.length + 1) / 2 := by
  fun_induction packDigits ds with
  | case1 => rfl
  | case2 d => simp
  | case3 d e l ih => simp [ih]; omega

/-! ## Flag bits -/

/-- Bit `k` of a flag byte of six defined bits is its `k`-th flag; bits 6 and 7 are 0. -/
theorem packBits_six : ∀ a b c d e f : Bool,
    (fun x : Byte => [x.getLsbD 0, x.getLsbD 1, x.getLsbD 2, x.getLsbD 3, x.getLsbD 4, x.getLsbD 5, x.getLsbD 6, x.getLsbD 7])
      (code (packBits [a, b, c, d, e, f])) = [a, b, c, d, e, f, false, false] := by decide

/-- Bit `k` of a flag byte of seven defined bits is its `k`-th flag; bit 7 is 0. -/
theorem packBits_seven : ∀ a b c d e f g : Bool,
    (fun x : Byte => [x.getLsbD 0, x.getLsbD 1, x.getLsbD 2, x.getLsbD 3, x.getLsbD 4, x.getLsbD 5, x.getLsbD 6, x.getLsbD 7])
      (code (packBits [a, b, c, d, e, f, g])) = [a, b, c, d, e, f, g, false] := by decide

/-! ## The acknowledge slot -/

/-- An answer heard is the answer driven (R149). -/
@[simp] theorem slotAnswer_symbol (a : RowAnswer) : slotAnswer (some a.symbol) = some a := by cases a <;> decide

/-- Any byte but the three symbols is silence. -/
theorem slotAnswer_other (b : Byte) (h : ∀ a : RowAnswer, b ≠ a.symbol) : slotAnswer (some b) = none := by
  simp [slotAnswer, h]

/-! ## Entries -/

/-- An entry reads exactly its layout when what stands behind its use byte does. -/
theorem readsExactly_of_body {α : Type} {size : Nat} {body : List Byte → Option α} {ok : α → Prop} {layout : α → List Byte}
    (hs : 0 < size) (h : ∀ rest e, rest.length + 1 = size → (body rest = some e ↔ ok e ∧ rest = layout e)) :
    ReadsExactly size (fun bytes => readUse bytes body) ok layout := by
  intro bytes hl
  cases bytes with
  | nil => simp at hl; omega
  | cons u rest =>
    have hb := fun e => h rest e (by simpa using hl)
    simp only [readUse, List.head?_cons, Option.some.injEq, List.cons.injEq]
    by_cases h0 : u = 0
    · subst h0
      simp
    · by_cases h1 : u = 1
      · subst h1
        rw [if_neg h0, if_pos rfl]
        cases he : body rest with
        | none =>
          have hn : ∀ e, ¬(ok e ∧ rest = layout e) := fun e => (hb e).not.1 (by simp [he])
          refine ⟨fun e => ⟨nofun, fun hk => (hn e ⟨hk.1, hk.2.2⟩).elim⟩, ⟨nofun, fun hk => (h0 hk).elim⟩, ?_⟩
          exact ⟨fun _ => ⟨fun hk => h0 (Option.some.inj hk), fun e hok hr => hn e ⟨hok, (List.cons.inj hr).2⟩⟩, fun _ => rfl⟩
        | some e =>
          have hself := (hb e).1 he
          refine ⟨fun e' => ?_, ⟨nofun, fun hk => (h0 hk).elim⟩, nofun, fun hk => (hk.2 e hself.1 (by rw [← hself.2])).elim⟩
          rw [EntryRead.content.injEq, ← Option.some.injEq, ← he, hb e']
          exact ⟨fun hk => ⟨hk.1, rfl, hk.2⟩, fun hk => ⟨hk.1, hk.2.2⟩⟩
      · rw [if_neg h0, if_neg h1]
        refine ⟨fun e => ⟨nofun, fun hk => (h1 hk.2.1).elim⟩, ⟨nofun, fun hk => (h0 hk).elim⟩, fun _ => ?_, fun _ => rfl⟩
        exact ⟨fun hk => h0 (Option.some.inj hk), fun e _ hr => h1 (List.cons.inj hr).1⟩

end Sys2Proof.Machine
end

