-- ==== Sys2Proof/Laws/State.lean ====
section
/-! SUPPORT. What each update of the state does to each block: one `rfl` lemma per block and update, so that no proof unfolds
a record update. -/

namespace Sys2Proof.Machine

/-! ### setStation -/

@[simp] theorem State.setStation_pins (s : State) (i : StationId) (r : StationRecord) : (s.setStation i r).pins = s.pins := rfl
@[simp] theorem State.setStation_elapsed (s : State) (i : StationId) (r : StationRecord) : (s.setStation i r).elapsed = s.elapsed := rfl
@[simp] theorem State.setStation_rlc (s : State) (i : StationId) (r : StationRecord) : (s.setStation i r).rlc = s.rlc := rfl
@[simp] theorem State.setStation_xlc (s : State) (i : StationId) (r : StationRecord) : (s.setStation i r).xlc = s.xlc := rfl
@[simp] theorem State.setStation_cc (s : State) (i : StationId) (r : StationRecord) : (s.setStation i r).cc = s.cc.set i r := rfl
@[simp] theorem State.setStation_ct (s : State) (i : StationId) (r : StationRecord) : (s.setStation i r).ct = s.ct := rfl
@[simp] theorem State.setStation_de (s : State) (i : StationId) (r : StationRecord) : (s.setStation i r).de = s.de := rfl
@[simp] theorem State.setStation_ts (s : State) (i : StationId) (r : StationRecord) : (s.setStation i r).ts = s.ts := rfl
@[simp] theorem State.setStation_tb (s : State) (i : StationId) (r : StationRecord) : (s.setStation i r).tb = s.tb := rfl
@[simp] theorem State.setStation_rq (s : State) (i : StationId) (r : StationRecord) : (s.setStation i r).rq = s.rq := rfl
@[simp] theorem State.setStation_mu (s : State) (i : StationId) (r : StationRecord) : (s.setStation i r).mu = s.mu := rfl
@[simp] theorem State.setStation_free (s : State) (i : StationId) (r : StationRecord) : (s.setStation i r).free = s.free := rfl
@[simp] theorem State.setStation_pending (s : State) (i : StationId) (r : StationRecord) : (s.setStation i r).pending = s.pending := rfl
@[simp] theorem State.setStation_order (s : State) (i : StationId) (r : StationRecord) (j : StationId) : (s.setStation i r).order j = s.order j := rfl
@[simp] theorem State.setStation_bank (s : State) (i : StationId) (r : StationRecord) (y : BankId) : (s.setStation i r).bank y = s.bank y := rfl

/-! ### mapStation -/

@[simp] theorem State.mapStation_pins (s : State) (i : StationId) (f : StationRecord → StationRecord) : (s.mapStation i f).pins = s.pins := rfl
@[simp] theorem State.mapStation_elapsed (s : State) (i : StationId) (f : StationRecord → StationRecord) : (s.mapStation i f).elapsed = s.elapsed := rfl
@[simp] theorem State.mapStation_rlc (s : State) (i : StationId) (f : StationRecord → StationRecord) : (s.mapStation i f).rlc = s.rlc := rfl
@[simp] theorem State.mapStation_xlc (s : State) (i : StationId) (f : StationRecord → StationRecord) : (s.mapStation i f).xlc = s.xlc := rfl
@[simp] theorem State.mapStation_cc (s : State) (i : StationId) (f : StationRecord → StationRecord) : (s.mapStation i f).cc = s.cc.set i (f (s.station i)) := rfl
@[simp] theorem State.mapStation_ct (s : State) (i : StationId) (f : StationRecord → StationRecord) : (s.mapStation i f).ct = s.ct := rfl
@[simp] theorem State.mapStation_de (s : State) (i : StationId) (f : StationRecord → StationRecord) : (s.mapStation i f).de = s.de := rfl
@[simp] theorem State.mapStation_ts (s : State) (i : StationId) (f : StationRecord → StationRecord) : (s.mapStation i f).ts = s.ts := rfl
@[simp] theorem State.mapStation_tb (s : State) (i : StationId) (f : StationRecord → StationRecord) : (s.mapStation i f).tb = s.tb := rfl
@[simp] theorem State.mapStation_rq (s : State) (i : StationId) (f : StationRecord → StationRecord) : (s.mapStation i f).rq = s.rq := rfl
@[simp] theorem State.mapStation_mu (s : State) (i : StationId) (f : StationRecord → StationRecord) : (s.mapStation i f).mu = s.mu := rfl
@[simp] theorem State.mapStation_free (s : State) (i : StationId) (f : StationRecord → StationRecord) : (s.mapStation i f).free = s.free := rfl
@[simp] theorem State.mapStation_pending (s : State) (i : StationId) (f : StationRecord → StationRecord) : (s.mapStation i f).pending = s.pending := rfl
@[simp] theorem State.mapStation_order (s : State) (i : StationId) (f : StationRecord → StationRecord) (j : StationId) : (s.mapStation i f).order j = s.order j := rfl
@[simp] theorem State.mapStation_bank (s : State) (i : StationId) (f : StationRecord → StationRecord) (y : BankId) : (s.mapStation i f).bank y = s.bank y := rfl

/-! ### mapContext -/

@[simp] theorem State.mapContext_pins (s : State) (i : StationId) (f : CallContext → CallContext) : (s.mapContext i f).pins = s.pins := rfl
@[simp] theorem State.mapContext_elapsed (s : State) (i : StationId) (f : CallContext → CallContext) : (s.mapContext i f).elapsed = s.elapsed := rfl
@[simp] theorem State.mapContext_rlc (s : State) (i : StationId) (f : CallContext → CallContext) : (s.mapContext i f).rlc = s.rlc := rfl
@[simp] theorem State.mapContext_xlc (s : State) (i : StationId) (f : CallContext → CallContext) : (s.mapContext i f).xlc = s.xlc := rfl
@[simp] theorem State.mapContext_cc (s : State) (i : StationId) (f : CallContext → CallContext) : (s.mapContext i f).cc = s.cc.set i { s.station i with context := (s.station i).context.map f } := rfl
@[simp] theorem State.mapContext_ct (s : State) (i : StationId) (f : CallContext → CallContext) : (s.mapContext i f).ct = s.ct := rfl
@[simp] theorem State.mapContext_de (s : State) (i : StationId) (f : CallContext → CallContext) : (s.mapContext i f).de = s.de := rfl
@[simp] theorem State.mapContext_ts (s : State) (i : StationId) (f : CallContext → CallContext) : (s.mapContext i f).ts = s.ts := rfl
@[simp] theorem State.mapContext_tb (s : State) (i : StationId) (f : CallContext → CallContext) : (s.mapContext i f).tb = s.tb := rfl
@[simp] theorem State.mapContext_rq (s : State) (i : StationId) (f : CallContext → CallContext) : (s.mapContext i f).rq = s.rq := rfl
@[simp] theorem State.mapContext_mu (s : State) (i : StationId) (f : CallContext → CallContext) : (s.mapContext i f).mu = s.mu := rfl
@[simp] theorem State.mapContext_free (s : State) (i : StationId) (f : CallContext → CallContext) : (s.mapContext i f).free = s.free := rfl
@[simp] theorem State.mapContext_pending (s : State) (i : StationId) (f : CallContext → CallContext) : (s.mapContext i f).pending = s.pending := rfl
@[simp] theorem State.mapContext_order (s : State) (i : StationId) (f : CallContext → CallContext) (j : StationId) : (s.mapContext i f).order j = s.order j := rfl
@[simp] theorem State.mapContext_bank (s : State) (i : StationId) (f : CallContext → CallContext) (y : BankId) : (s.mapContext i f).bank y = s.bank y := rfl

/-! ### setOrder -/

@[simp] theorem State.setOrder_pins (s : State) (i : StationId) (o : Option BurnOrder) : (s.setOrder i o).pins = s.pins := rfl
@[simp] theorem State.setOrder_elapsed (s : State) (i : StationId) (o : Option BurnOrder) : (s.setOrder i o).elapsed = s.elapsed := rfl
@[simp] theorem State.setOrder_rlc (s : State) (i : StationId) (o : Option BurnOrder) : (s.setOrder i o).rlc = s.rlc := rfl
@[simp] theorem State.setOrder_xlc (s : State) (i : StationId) (o : Option BurnOrder) : (s.setOrder i o).xlc = s.xlc := rfl
@[simp] theorem State.setOrder_cc (s : State) (i : StationId) (o : Option BurnOrder) : (s.setOrder i o).cc = s.cc := rfl
@[simp] theorem State.setOrder_ct (s : State) (i : StationId) (o : Option BurnOrder) : (s.setOrder i o).ct = s.ct := rfl
@[simp] theorem State.setOrder_de (s : State) (i : StationId) (o : Option BurnOrder) : (s.setOrder i o).de = { s.de with orders := s.de.orders.set i o } := rfl
@[simp] theorem State.setOrder_ts (s : State) (i : StationId) (o : Option BurnOrder) : (s.setOrder i o).ts = s.ts := rfl
@[simp] theorem State.setOrder_tb (s : State) (i : StationId) (o : Option BurnOrder) : (s.setOrder i o).tb = s.tb := rfl
@[simp] theorem State.setOrder_rq (s : State) (i : StationId) (o : Option BurnOrder) : (s.setOrder i o).rq = s.rq := rfl
@[simp] theorem State.setOrder_mu (s : State) (i : StationId) (o : Option BurnOrder) : (s.setOrder i o).mu = s.mu := rfl
@[simp] theorem State.setOrder_free (s : State) (i : StationId) (o : Option BurnOrder) : (s.setOrder i o).free = s.free := rfl
@[simp] theorem State.setOrder_pending (s : State) (i : StationId) (o : Option BurnOrder) : (s.setOrder i o).pending = s.pending := rfl
@[simp] theorem State.setOrder_station (s : State) (i : StationId) (o : Option BurnOrder) (j : StationId) : (s.setOrder i o).station j = s.station j := rfl
@[simp] theorem State.setOrder_bank (s : State) (i : StationId) (o : Option BurnOrder) (y : BankId) : (s.setOrder i o).bank y = s.bank y := rfl

/-! ### withCards -/

@[simp] theorem State.withCards_pins (s : State) (cs : List CardRecord) : (s.withCards cs).pins = s.pins := rfl
@[simp] theorem State.withCards_elapsed (s : State) (cs : List CardRecord) : (s.withCards cs).elapsed = s.elapsed := rfl
@[simp] theorem State.withCards_rlc (s : State) (cs : List CardRecord) : (s.withCards cs).rlc = s.rlc := rfl
@[simp] theorem State.withCards_xlc (s : State) (cs : List CardRecord) : (s.withCards cs).xlc = s.xlc := rfl
@[simp] theorem State.withCards_cc (s : State) (cs : List CardRecord) : (s.withCards cs).cc = s.cc := rfl
@[simp] theorem State.withCards_ct (s : State) (cs : List CardRecord) : (s.withCards cs).ct = { s.ct with cards := cs } := rfl
@[simp] theorem State.withCards_de (s : State) (cs : List CardRecord) : (s.withCards cs).de = s.de := rfl
@[simp] theorem State.withCards_ts (s : State) (cs : List CardRecord) : (s.withCards cs).ts = s.ts := rfl
@[simp] theorem State.withCards_tb (s : State) (cs : List CardRecord) : (s.withCards cs).tb = s.tb := rfl
@[simp] theorem State.withCards_rq (s : State) (cs : List CardRecord) : (s.withCards cs).rq = s.rq := rfl
@[simp] theorem State.withCards_mu (s : State) (cs : List CardRecord) : (s.withCards cs).mu = s.mu := rfl
@[simp] theorem State.withCards_free (s : State) (cs : List CardRecord) : (s.withCards cs).free = s.free := rfl
@[simp] theorem State.withCards_pending (s : State) (cs : List CardRecord) : (s.withCards cs).pending = s.pending := rfl
@[simp] theorem State.withCards_station (s : State) (cs : List CardRecord) (j : StationId) : (s.withCards cs).station j = s.station j := rfl
@[simp] theorem State.withCards_order (s : State) (cs : List CardRecord) (j : StationId) : (s.withCards cs).order j = s.order j := rfl
@[simp] theorem State.withCards_bank (s : State) (cs : List CardRecord) (y : BankId) : (s.withCards cs).bank y = s.bank y := rfl

/-! ### setBank -/

@[simp] theorem State.setBank_pins (s : State) (x : BankId) (b : Bank) : (s.setBank x b).pins = s.pins := rfl
@[simp] theorem State.setBank_elapsed (s : State) (x : BankId) (b : Bank) : (s.setBank x b).elapsed = s.elapsed := rfl
@[simp] theorem State.setBank_rlc (s : State) (x : BankId) (b : Bank) : (s.setBank x b).rlc = s.rlc := rfl
@[simp] theorem State.setBank_xlc (s : State) (x : BankId) (b : Bank) : (s.setBank x b).xlc = s.xlc := rfl
@[simp] theorem State.setBank_cc (s : State) (x : BankId) (b : Bank) : (s.setBank x b).cc = s.cc := rfl
@[simp] theorem State.setBank_ct (s : State) (x : BankId) (b : Bank) : (s.setBank x b).ct = s.ct := rfl
@[simp] theorem State.setBank_de (s : State) (x : BankId) (b : Bank) : (s.setBank x b).de = s.de := rfl
@[simp] theorem State.setBank_ts (s : State) (x : BankId) (b : Bank) : (s.setBank x b).ts = s.ts.setBank x b := rfl
@[simp] theorem State.setBank_tb (s : State) (x : BankId) (b : Bank) : (s.setBank x b).tb = s.tb := rfl
@[simp] theorem State.setBank_rq (s : State) (x : BankId) (b : Bank) : (s.setBank x b).rq = s.rq := rfl
@[simp] theorem State.setBank_mu (s : State) (x : BankId) (b : Bank) : (s.setBank x b).mu = s.mu := rfl
@[simp] theorem State.setBank_free (s : State) (x : BankId) (b : Bank) : (s.setBank x b).free = s.free := rfl
@[simp] theorem State.setBank_pending (s : State) (x : BankId) (b : Bank) : (s.setBank x b).pending = s.pending := rfl
@[simp] theorem State.setBank_station (s : State) (x : BankId) (b : Bank) (j : StationId) : (s.setBank x b).station j = s.station j := rfl
@[simp] theorem State.setBank_order (s : State) (x : BankId) (b : Bank) (j : StationId) : (s.setBank x b).order j = s.order j := rfl

/-! ### pinBank -/

@[simp] theorem State.pinBank_pins (s : State) (x : BankId) : (s.pinBank x).pins = s.pins := rfl
@[simp] theorem State.pinBank_elapsed (s : State) (x : BankId) : (s.pinBank x).elapsed = s.elapsed := rfl
@[simp] theorem State.pinBank_rlc (s : State) (x : BankId) : (s.pinBank x).rlc = s.rlc := rfl
@[simp] theorem State.pinBank_xlc (s : State) (x : BankId) : (s.pinBank x).xlc = s.xlc := rfl
@[simp] theorem State.pinBank_cc (s : State) (x : BankId) : (s.pinBank x).cc = s.cc := rfl
@[simp] theorem State.pinBank_ct (s : State) (x : BankId) : (s.pinBank x).ct = s.ct := rfl
@[simp] theorem State.pinBank_de (s : State) (x : BankId) : (s.pinBank x).de = s.de := rfl
@[simp] theorem State.pinBank_ts (s : State) (x : BankId) : (s.pinBank x).ts = s.ts.setBank x { s.bank x with pins := (s.bank x).pins + 1 } := rfl
@[simp] theorem State.pinBank_tb (s : State) (x : BankId) : (s.pinBank x).tb = s.tb := rfl
@[simp] theorem State.pinBank_rq (s : State) (x : BankId) : (s.pinBank x).rq = s.rq := rfl
@[simp] theorem State.pinBank_mu (s : State) (x : BankId) : (s.pinBank x).mu = s.mu := rfl
@[simp] theorem State.pinBank_free (s : State) (x : BankId) : (s.pinBank x).free = s.free := rfl
@[simp] theorem State.pinBank_pending (s : State) (x : BankId) : (s.pinBank x).pending = s.pending := rfl
@[simp] theorem State.pinBank_station (s : State) (x : BankId) (j : StationId) : (s.pinBank x).station j = s.station j := rfl
@[simp] theorem State.pinBank_order (s : State) (x : BankId) (j : StationId) : (s.pinBank x).order j = s.order j := rfl

/-! ### unpinBank -/

@[simp] theorem State.unpinBank_pins (s : State) (x : BankId) : (s.unpinBank x).pins = s.pins := rfl
@[simp] theorem State.unpinBank_elapsed (s : State) (x : BankId) : (s.unpinBank x).elapsed = s.elapsed := rfl
@[simp] theorem State.unpinBank_rlc (s : State) (x : BankId) : (s.unpinBank x).rlc = s.rlc := rfl
@[simp] theorem State.unpinBank_xlc (s : State) (x : BankId) : (s.unpinBank x).xlc = s.xlc := rfl
@[simp] theorem State.unpinBank_cc (s : State) (x : BankId) : (s.unpinBank x).cc = s.cc := rfl
@[simp] theorem State.unpinBank_ct (s : State) (x : BankId) : (s.unpinBank x).ct = s.ct := rfl
@[simp] theorem State.unpinBank_de (s : State) (x : BankId) : (s.unpinBank x).de = s.de := rfl
@[simp] theorem State.unpinBank_ts (s : State) (x : BankId) : (s.unpinBank x).ts = s.ts.setBank x (s.bank x).unpinned := rfl
@[simp] theorem State.unpinBank_tb (s : State) (x : BankId) : (s.unpinBank x).tb = s.tb := rfl
@[simp] theorem State.unpinBank_rq (s : State) (x : BankId) : (s.unpinBank x).rq = s.rq := rfl
@[simp] theorem State.unpinBank_mu (s : State) (x : BankId) : (s.unpinBank x).mu = s.mu := rfl
@[simp] theorem State.unpinBank_free (s : State) (x : BankId) : (s.unpinBank x).free = s.free := rfl
@[simp] theorem State.unpinBank_pending (s : State) (x : BankId) : (s.unpinBank x).pending = s.pending := rfl
@[simp] theorem State.unpinBank_station (s : State) (x : BankId) (j : StationId) : (s.unpinBank x).station j = s.station j := rfl
@[simp] theorem State.unpinBank_order (s : State) (x : BankId) (j : StationId) : (s.unpinBank x).order j = s.order j := rfl

/-! ### offerRow -/

@[simp] theorem State.offerRow_pins (s : State) (f : RowOutFrame) : (s.offerRow f).pins = s.pins := rfl
@[simp] theorem State.offerRow_elapsed (s : State) (f : RowOutFrame) : (s.offerRow f).elapsed = s.elapsed := rfl
@[simp] theorem State.offerRow_rlc (s : State) (f : RowOutFrame) : (s.offerRow f).rlc = s.rlc.offer f := rfl
@[simp] theorem State.offerRow_xlc (s : State) (f : RowOutFrame) : (s.offerRow f).xlc = s.xlc := rfl
@[simp] theorem State.offerRow_cc (s : State) (f : RowOutFrame) : (s.offerRow f).cc = s.cc := rfl
@[simp] theorem State.offerRow_ct (s : State) (f : RowOutFrame) : (s.offerRow f).ct = s.ct := rfl
@[simp] theorem State.offerRow_de (s : State) (f : RowOutFrame) : (s.offerRow f).de = s.de := rfl
@[simp] theorem State.offerRow_ts (s : State) (f : RowOutFrame) : (s.offerRow f).ts = s.ts := rfl
@[simp] theorem State.offerRow_tb (s : State) (f : RowOutFrame) : (s.offerRow f).tb = s.tb := rfl
@[simp] theorem State.offerRow_rq (s : State) (f : RowOutFrame) : (s.offerRow f).rq = s.rq := rfl
@[simp] theorem State.offerRow_mu (s : State) (f : RowOutFrame) : (s.offerRow f).mu = s.mu := rfl
@[simp] theorem State.offerRow_free (s : State) (f : RowOutFrame) : (s.offerRow f).free = s.free := rfl
@[simp] theorem State.offerRow_pending (s : State) (f : RowOutFrame) : (s.offerRow f).pending = s.pending := rfl
@[simp] theorem State.offerRow_station (s : State) (f : RowOutFrame) (j : StationId) : (s.offerRow f).station j = s.station j := rfl
@[simp] theorem State.offerRow_order (s : State) (f : RowOutFrame) (j : StationId) : (s.offerRow f).order j = s.order j := rfl
@[simp] theorem State.offerRow_bank (s : State) (f : RowOutFrame) (y : BankId) : (s.offerRow f).bank y = s.bank y := rfl

/-! ### tellStation -/

@[simp] theorem State.tellStation_pins (s : State) (i : StationId) (m : RowMsg) : (s.tellStation i m).pins = s.pins := rfl
@[simp] theorem State.tellStation_elapsed (s : State) (i : StationId) (m : RowMsg) : (s.tellStation i m).elapsed = s.elapsed := rfl
@[simp] theorem State.tellStation_rlc (s : State) (i : StationId) (m : RowMsg) : (s.tellStation i m).rlc = s.rlc.offer ⟨.station i, m, .cc⟩ := rfl
@[simp] theorem State.tellStation_xlc (s : State) (i : StationId) (m : RowMsg) : (s.tellStation i m).xlc = s.xlc := rfl
@[simp] theorem State.tellStation_cc (s : State) (i : StationId) (m : RowMsg) : (s.tellStation i m).cc = s.cc := rfl
@[simp] theorem State.tellStation_ct (s : State) (i : StationId) (m : RowMsg) : (s.tellStation i m).ct = s.ct := rfl
@[simp] theorem State.tellStation_de (s : State) (i : StationId) (m : RowMsg) : (s.tellStation i m).de = s.de := rfl
@[simp] theorem State.tellStation_ts (s : State) (i : StationId) (m : RowMsg) : (s.tellStation i m).ts = s.ts := rfl
@[simp] theorem State.tellStation_tb (s : State) (i : StationId) (m : RowMsg) : (s.tellStation i m).tb = s.tb := rfl
@[simp] theorem State.tellStation_rq (s : State) (i : StationId) (m : RowMsg) : (s.tellStation i m).rq = s.rq := rfl
@[simp] theorem State.tellStation_mu (s : State) (i : StationId) (m : RowMsg) : (s.tellStation i m).mu = s.mu := rfl
@[simp] theorem State.tellStation_free (s : State) (i : StationId) (m : RowMsg) : (s.tellStation i m).free = s.free := rfl
@[simp] theorem State.tellStation_pending (s : State) (i : StationId) (m : RowMsg) : (s.tellStation i m).pending = s.pending := rfl
@[simp] theorem State.tellStation_station (s : State) (i : StationId) (m : RowMsg) (j : StationId) : (s.tellStation i m).station j = s.station j := rfl
@[simp] theorem State.tellStation_order (s : State) (i : StationId) (m : RowMsg) (j : StationId) : (s.tellStation i m).order j = s.order j := rfl
@[simp] theorem State.tellStation_bank (s : State) (i : StationId) (m : RowMsg) (y : BankId) : (s.tellStation i m).bank y = s.bank y := rfl

/-! ### tellCard -/

@[simp] theorem State.tellCard_pins (s : State) (i : StationId) (m : RowMsg) : (s.tellCard i m).pins = s.pins := rfl
@[simp] theorem State.tellCard_elapsed (s : State) (i : StationId) (m : RowMsg) : (s.tellCard i m).elapsed = s.elapsed := rfl
@[simp] theorem State.tellCard_rlc (s : State) (i : StationId) (m : RowMsg) : (s.tellCard i m).rlc = s.rlc.offer ⟨.station i, m, .ct⟩ := rfl
@[simp] theorem State.tellCard_xlc (s : State) (i : StationId) (m : RowMsg) : (s.tellCard i m).xlc = s.xlc := rfl
@[simp] theorem State.tellCard_cc (s : State) (i : StationId) (m : RowMsg) : (s.tellCard i m).cc = s.cc := rfl
@[simp] theorem State.tellCard_ct (s : State) (i : StationId) (m : RowMsg) : (s.tellCard i m).ct = s.ct := rfl
@[simp] theorem State.tellCard_de (s : State) (i : StationId) (m : RowMsg) : (s.tellCard i m).de = s.de := rfl
@[simp] theorem State.tellCard_ts (s : State) (i : StationId) (m : RowMsg) : (s.tellCard i m).ts = s.ts := rfl
@[simp] theorem State.tellCard_tb (s : State) (i : StationId) (m : RowMsg) : (s.tellCard i m).tb = s.tb := rfl
@[simp] theorem State.tellCard_rq (s : State) (i : StationId) (m : RowMsg) : (s.tellCard i m).rq = s.rq := rfl
@[simp] theorem State.tellCard_mu (s : State) (i : StationId) (m : RowMsg) : (s.tellCard i m).mu = s.mu := rfl
@[simp] theorem State.tellCard_free (s : State) (i : StationId) (m : RowMsg) : (s.tellCard i m).free = s.free := rfl
@[simp] theorem State.tellCard_pending (s : State) (i : StationId) (m : RowMsg) : (s.tellCard i m).pending = s.pending := rfl
@[simp] theorem State.tellCard_station (s : State) (i : StationId) (m : RowMsg) (j : StationId) : (s.tellCard i m).station j = s.station j := rfl
@[simp] theorem State.tellCard_order (s : State) (i : StationId) (m : RowMsg) (j : StationId) : (s.tellCard i m).order j = s.order j := rfl
@[simp] theorem State.tellCard_bank (s : State) (i : StationId) (m : RowMsg) (y : BankId) : (s.tellCard i m).bank y = s.bank y := rfl

/-! ### offerLink -/

@[simp] theorem State.offerLink_pins (s : State) (m : LinkMsg) : (s.offerLink m).pins = s.pins := rfl
@[simp] theorem State.offerLink_elapsed (s : State) (m : LinkMsg) : (s.offerLink m).elapsed = s.elapsed := rfl
@[simp] theorem State.offerLink_rlc (s : State) (m : LinkMsg) : (s.offerLink m).rlc = s.rlc := rfl
@[simp] theorem State.offerLink_xlc (s : State) (m : LinkMsg) : (s.offerLink m).xlc = s.xlc.offer m := rfl
@[simp] theorem State.offerLink_cc (s : State) (m : LinkMsg) : (s.offerLink m).cc = s.cc := rfl
@[simp] theorem State.offerLink_ct (s : State) (m : LinkMsg) : (s.offerLink m).ct = s.ct := rfl
@[simp] theorem State.offerLink_de (s : State) (m : LinkMsg) : (s.offerLink m).de = s.de := rfl
@[simp] theorem State.offerLink_ts (s : State) (m : LinkMsg) : (s.offerLink m).ts = s.ts := rfl
@[simp] theorem State.offerLink_tb (s : State) (m : LinkMsg) : (s.offerLink m).tb = s.tb := rfl
@[simp] theorem State.offerLink_rq (s : State) (m : LinkMsg) : (s.offerLink m).rq = s.rq := rfl
@[simp] theorem State.offerLink_mu (s : State) (m : LinkMsg) : (s.offerLink m).mu = s.mu := rfl
@[simp] theorem State.offerLink_free (s : State) (m : LinkMsg) : (s.offerLink m).free = s.free := rfl
@[simp] theorem State.offerLink_pending (s : State) (m : LinkMsg) : (s.offerLink m).pending = s.pending := rfl
@[simp] theorem State.offerLink_station (s : State) (m : LinkMsg) (j : StationId) : (s.offerLink m).station j = s.station j := rfl
@[simp] theorem State.offerLink_order (s : State) (m : LinkMsg) (j : StationId) : (s.offerLink m).order j = s.order j := rfl
@[simp] theorem State.offerLink_bank (s : State) (m : LinkMsg) (y : BankId) : (s.offerLink m).bank y = s.bank y := rfl

/-! ### storeRecord -/

@[simp] theorem State.storeRecord_pins (s : State) (i : StationId) (x : CallContext) : (s.storeRecord i x).pins = s.pins := rfl
@[simp] theorem State.storeRecord_elapsed (s : State) (i : StationId) (x : CallContext) : (s.storeRecord i x).elapsed = s.elapsed := rfl
@[simp] theorem State.storeRecord_rlc (s : State) (i : StationId) (x : CallContext) : (s.storeRecord i x).rlc = s.rlc := rfl
@[simp] theorem State.storeRecord_xlc (s : State) (i : StationId) (x : CallContext) : (s.storeRecord i x).xlc = s.xlc := rfl
@[simp] theorem State.storeRecord_cc (s : State) (i : StationId) (x : CallContext) : (s.storeRecord i x).cc = s.cc := rfl
@[simp] theorem State.storeRecord_ct (s : State) (i : StationId) (x : CallContext) : (s.storeRecord i x).ct = s.ct := rfl
@[simp] theorem State.storeRecord_de (s : State) (i : StationId) (x : CallContext) : (s.storeRecord i x).de = s.de := rfl
@[simp] theorem State.storeRecord_ts (s : State) (i : StationId) (x : CallContext) : (s.storeRecord i x).ts = s.ts := rfl
@[simp] theorem State.storeRecord_tb (s : State) (i : StationId) (x : CallContext) : (s.storeRecord i x).tb = s.tb := rfl
@[simp] theorem State.storeRecord_rq (s : State) (i : StationId) (x : CallContext) : (s.storeRecord i x).rq = s.rq.append i x := rfl
@[simp] theorem State.storeRecord_mu (s : State) (i : StationId) (x : CallContext) : (s.storeRecord i x).mu = s.mu := rfl
@[simp] theorem State.storeRecord_free (s : State) (i : StationId) (x : CallContext) : (s.storeRecord i x).free = s.free := rfl
@[simp] theorem State.storeRecord_pending (s : State) (i : StationId) (x : CallContext) : (s.storeRecord i x).pending = s.pending := rfl
@[simp] theorem State.storeRecord_station (s : State) (i : StationId) (x : CallContext) (j : StationId) : (s.storeRecord i x).station j = s.station j := rfl
@[simp] theorem State.storeRecord_order (s : State) (i : StationId) (x : CallContext) (j : StationId) : (s.storeRecord i x).order j = s.order j := rfl
@[simp] theorem State.storeRecord_bank (s : State) (i : StationId) (x : CallContext) (y : BankId) : (s.storeRecord i x).bank y = s.bank y := rfl

/-! ### countFailure -/

@[simp] theorem State.countFailure_pins (s : State) (i : StationId) (out : OrderOutcome) : (s.countFailure i out).pins = s.pins := rfl
@[simp] theorem State.countFailure_elapsed (s : State) (i : StationId) (out : OrderOutcome) : (s.countFailure i out).elapsed = s.elapsed := rfl
@[simp] theorem State.countFailure_rlc (s : State) (i : StationId) (out : OrderOutcome) : (s.countFailure i out).rlc = s.rlc := rfl
@[simp] theorem State.countFailure_xlc (s : State) (i : StationId) (out : OrderOutcome) : (s.countFailure i out).xlc = s.xlc := rfl
@[simp] theorem State.countFailure_cc (s : State) (i : StationId) (out : OrderOutcome) : (s.countFailure i out).cc = s.cc := rfl
@[simp] theorem State.countFailure_ct (s : State) (i : StationId) (out : OrderOutcome) : (s.countFailure i out).ct = s.ct := rfl
@[simp] theorem State.countFailure_de (s : State) (i : StationId) (out : OrderOutcome) : (s.countFailure i out).de = { s.de with failures := s.de.failures.set i (out.failures (s.de.failures.get i)) } := rfl
@[simp] theorem State.countFailure_ts (s : State) (i : StationId) (out : OrderOutcome) : (s.countFailure i out).ts = s.ts := rfl
@[simp] theorem State.countFailure_tb (s : State) (i : StationId) (out : OrderOutcome) : (s.countFailure i out).tb = s.tb := rfl
@[simp] theorem State.countFailure_rq (s : State) (i : StationId) (out : OrderOutcome) : (s.countFailure i out).rq = s.rq := rfl
@[simp] theorem State.countFailure_mu (s : State) (i : StationId) (out : OrderOutcome) : (s.countFailure i out).mu = s.mu := rfl
@[simp] theorem State.countFailure_free (s : State) (i : StationId) (out : OrderOutcome) : (s.countFailure i out).free = s.free := rfl
@[simp] theorem State.countFailure_pending (s : State) (i : StationId) (out : OrderOutcome) : (s.countFailure i out).pending = s.pending := rfl
@[simp] theorem State.countFailure_station (s : State) (i : StationId) (out : OrderOutcome) (j : StationId) : (s.countFailure i out).station j = s.station j := rfl
@[simp] theorem State.countFailure_bank (s : State) (i : StationId) (out : OrderOutcome) (y : BankId) : (s.countFailure i out).bank y = s.bank y := rfl

/-! ### forgetTag -/

@[simp] theorem State.forgetTag_pins (s : State) (i : StationId) (t : Nat) : (s.forgetTag i t).pins = s.pins := rfl
@[simp] theorem State.forgetTag_elapsed (s : State) (i : StationId) (t : Nat) : (s.forgetTag i t).elapsed = s.elapsed := rfl
@[simp] theorem State.forgetTag_rlc (s : State) (i : StationId) (t : Nat) : (s.forgetTag i t).rlc = s.rlc := rfl
@[simp] theorem State.forgetTag_xlc (s : State) (i : StationId) (t : Nat) : (s.forgetTag i t).xlc = s.xlc := rfl
@[simp] theorem State.forgetTag_cc (s : State) (i : StationId) (t : Nat) : (s.forgetTag i t).cc = s.cc := rfl
@[simp] theorem State.forgetTag_ct (s : State) (i : StationId) (t : Nat) : (s.forgetTag i t).ct = s.ct := rfl
@[simp] theorem State.forgetTag_de (s : State) (i : StationId) (t : Nat) : (s.forgetTag i t).de = { s.de with retired := s.de.retired.erase (i, t) } := rfl
@[simp] theorem State.forgetTag_ts (s : State) (i : StationId) (t : Nat) : (s.forgetTag i t).ts = s.ts := rfl
@[simp] theorem State.forgetTag_tb (s : State) (i : StationId) (t : Nat) : (s.forgetTag i t).tb = s.tb := rfl
@[simp] theorem State.forgetTag_rq (s : State) (i : StationId) (t : Nat) : (s.forgetTag i t).rq = s.rq := rfl
@[simp] theorem State.forgetTag_mu (s : State) (i : StationId) (t : Nat) : (s.forgetTag i t).mu = s.mu := rfl
@[simp] theorem State.forgetTag_free (s : State) (i : StationId) (t : Nat) : (s.forgetTag i t).free = s.free := rfl
@[simp] theorem State.forgetTag_pending (s : State) (i : StationId) (t : Nat) : (s.forgetTag i t).pending = s.pending := rfl
@[simp] theorem State.forgetTag_station (s : State) (i : StationId) (t : Nat) (j : StationId) : (s.forgetTag i t).station j = s.station j := rfl
@[simp] theorem State.forgetTag_bank (s : State) (i : StationId) (t : Nat) (y : BankId) : (s.forgetTag i t).bank y = s.bank y := rfl

/-! ### refreshAttn -/

@[simp] theorem State.refreshAttn_pins (s : State) : s.refreshAttn.pins = { s.pins with attn := s.attnHolds } := rfl
@[simp] theorem State.refreshAttn_elapsed (s : State) : s.refreshAttn.elapsed = s.elapsed := rfl
@[simp] theorem State.refreshAttn_rlc (s : State) : s.refreshAttn.rlc = s.rlc := rfl
@[simp] theorem State.refreshAttn_xlc (s : State) : s.refreshAttn.xlc = s.xlc := rfl
@[simp] theorem State.refreshAttn_cc (s : State) : s.refreshAttn.cc = s.cc := rfl
@[simp] theorem State.refreshAttn_ct (s : State) : s.refreshAttn.ct = s.ct := rfl
@[simp] theorem State.refreshAttn_de (s : State) : s.refreshAttn.de = s.de := rfl
@[simp] theorem State.refreshAttn_ts (s : State) : s.refreshAttn.ts = s.ts := rfl
@[simp] theorem State.refreshAttn_tb (s : State) : s.refreshAttn.tb = s.tb := rfl
@[simp] theorem State.refreshAttn_rq (s : State) : s.refreshAttn.rq = s.rq := rfl
@[simp] theorem State.refreshAttn_mu (s : State) : s.refreshAttn.mu = s.mu := rfl
@[simp] theorem State.refreshAttn_free (s : State) : s.refreshAttn.free = s.free := rfl
@[simp] theorem State.refreshAttn_pending (s : State) : s.refreshAttn.pending = s.pending := rfl
@[simp] theorem State.refreshAttn_station (s : State) (j : StationId) : s.refreshAttn.station j = s.station j := rfl
@[simp] theorem State.refreshAttn_order (s : State) (j : StationId) : s.refreshAttn.order j = s.order j := rfl
@[simp] theorem State.refreshAttn_bank (s : State) (y : BankId) : s.refreshAttn.bank y = s.bank y := rfl

/-! ### advancePointer -/

@[simp] theorem State.advancePointer_pins (s : State) : s.advancePointer.pins = s.pins := rfl
@[simp] theorem State.advancePointer_elapsed (s : State) : s.advancePointer.elapsed = s.elapsed := rfl
@[simp] theorem State.advancePointer_rlc (s : State) : s.advancePointer.rlc = s.rlc := rfl
@[simp] theorem State.advancePointer_xlc (s : State) : s.advancePointer.xlc = s.xlc := rfl
@[simp] theorem State.advancePointer_cc (s : State) : s.advancePointer.cc = s.cc := rfl
@[simp] theorem State.advancePointer_ct (s : State) : s.advancePointer.ct = s.ct := rfl
@[simp] theorem State.advancePointer_de (s : State) : s.advancePointer.de = s.de := rfl
@[simp] theorem State.advancePointer_ts (s : State) : s.advancePointer.ts = s.ts := rfl
@[simp] theorem State.advancePointer_tb (s : State) : s.advancePointer.tb = s.tb := rfl
@[simp] theorem State.advancePointer_rq (s : State) : s.advancePointer.rq = s.rq := rfl
@[simp] theorem State.advancePointer_mu (s : State) : s.advancePointer.mu = s.mu.advance := rfl
@[simp] theorem State.advancePointer_free (s : State) : s.advancePointer.free = s.free := rfl
@[simp] theorem State.advancePointer_pending (s : State) : s.advancePointer.pending = s.pending := rfl
@[simp] theorem State.advancePointer_station (s : State) (j : StationId) : s.advancePointer.station j = s.station j := rfl
@[simp] theorem State.advancePointer_order (s : State) (j : StationId) : s.advancePointer.order j = s.order j := rfl
@[simp] theorem State.advancePointer_bank (s : State) (y : BankId) : s.advancePointer.bank y = s.bank y := rfl

/-! ### rowTaken -/

@[simp] theorem State.rowTaken_pins (s : State) (rest : List RowInFrame) : (s.rowTaken rest).pins = s.pins := rfl
@[simp] theorem State.rowTaken_elapsed (s : State) (rest : List RowInFrame) : (s.rowTaken rest).elapsed = s.elapsed := rfl
@[simp] theorem State.rowTaken_rlc (s : State) (rest : List RowInFrame) : (s.rowTaken rest).rlc = { s.rlc with inbound := rest } := rfl
@[simp] theorem State.rowTaken_xlc (s : State) (rest : List RowInFrame) : (s.rowTaken rest).xlc = s.xlc := rfl
@[simp] theorem State.rowTaken_cc (s : State) (rest : List RowInFrame) : (s.rowTaken rest).cc = s.cc := rfl
@[simp] theorem State.rowTaken_ct (s : State) (rest : List RowInFrame) : (s.rowTaken rest).ct = s.ct := rfl
@[simp] theorem State.rowTaken_de (s : State) (rest : List RowInFrame) : (s.rowTaken rest).de = s.de := rfl
@[simp] theorem State.rowTaken_ts (s : State) (rest : List RowInFrame) : (s.rowTaken rest).ts = s.ts := rfl
@[simp] theorem State.rowTaken_tb (s : State) (rest : List RowInFrame) : (s.rowTaken rest).tb = s.tb := rfl
@[simp] theorem State.rowTaken_rq (s : State) (rest : List RowInFrame) : (s.rowTaken rest).rq = s.rq := rfl
@[simp] theorem State.rowTaken_mu (s : State) (rest : List RowInFrame) : (s.rowTaken rest).mu = s.mu := rfl
@[simp] theorem State.rowTaken_free (s : State) (rest : List RowInFrame) : (s.rowTaken rest).free = s.free := rfl
@[simp] theorem State.rowTaken_pending (s : State) (rest : List RowInFrame) : (s.rowTaken rest).pending = s.pending := rfl
@[simp] theorem State.rowTaken_station (s : State) (rest : List RowInFrame) (j : StationId) : (s.rowTaken rest).station j = s.station j := rfl
@[simp] theorem State.rowTaken_order (s : State) (rest : List RowInFrame) (j : StationId) : (s.rowTaken rest).order j = s.order j := rfl
@[simp] theorem State.rowTaken_bank (s : State) (rest : List RowInFrame) (y : BankId) : (s.rowTaken rest).bank y = s.bank y := rfl

/-! ### linkTaken -/

@[simp] theorem State.linkTaken_pins (s : State) (rest : List LinkInMsg) : (s.linkTaken rest).pins = s.pins := rfl
@[simp] theorem State.linkTaken_elapsed (s : State) (rest : List LinkInMsg) : (s.linkTaken rest).elapsed = s.elapsed := rfl
@[simp] theorem State.linkTaken_rlc (s : State) (rest : List LinkInMsg) : (s.linkTaken rest).rlc = s.rlc := rfl
@[simp] theorem State.linkTaken_xlc (s : State) (rest : List LinkInMsg) : (s.linkTaken rest).xlc = { s.xlc with inbound := rest } := rfl
@[simp] theorem State.linkTaken_cc (s : State) (rest : List LinkInMsg) : (s.linkTaken rest).cc = s.cc := rfl
@[simp] theorem State.linkTaken_ct (s : State) (rest : List LinkInMsg) : (s.linkTaken rest).ct = s.ct := rfl
@[simp] theorem State.linkTaken_de (s : State) (rest : List LinkInMsg) : (s.linkTaken rest).de = s.de := rfl
@[simp] theorem State.linkTaken_ts (s : State) (rest : List LinkInMsg) : (s.linkTaken rest).ts = s.ts := rfl
@[simp] theorem State.linkTaken_tb (s : State) (rest : List LinkInMsg) : (s.linkTaken rest).tb = s.tb := rfl
@[simp] theorem State.linkTaken_rq (s : State) (rest : List LinkInMsg) : (s.linkTaken rest).rq = s.rq := rfl
@[simp] theorem State.linkTaken_mu (s : State) (rest : List LinkInMsg) : (s.linkTaken rest).mu = s.mu := rfl
@[simp] theorem State.linkTaken_free (s : State) (rest : List LinkInMsg) : (s.linkTaken rest).free = s.free := rfl
@[simp] theorem State.linkTaken_pending (s : State) (rest : List LinkInMsg) : (s.linkTaken rest).pending = s.pending := rfl
@[simp] theorem State.linkTaken_station (s : State) (rest : List LinkInMsg) (j : StationId) : (s.linkTaken rest).station j = s.station j := rfl
@[simp] theorem State.linkTaken_order (s : State) (rest : List LinkInMsg) (j : StationId) : (s.linkTaken rest).order j = s.order j := rfl
@[simp] theorem State.linkTaken_bank (s : State) (rest : List LinkInMsg) (y : BankId) : (s.linkTaken rest).bank y = s.bank y := rfl

end Sys2Proof.Machine
end

