-- ==== Sys2Proof/Laws/Ops.lean ====
section
/-! SUPPORT. What each shared operation can do, said once: stations and orders after an update, the offers, the clear and
its completion; and the blocks no call, card or order operation touches. -/

namespace Sys2Proof.Machine

/-! ## Stations and orders after an update -/

@[simp] theorem State.setStation_same (s : State) (i : StationId) (r : StationRecord) : (s.setStation i r).station i = r := by
  simp [State.station]

theorem State.setStation_other (s : State) (i j : StationId) (r : StationRecord) (h : j ≠ i) :
    (s.setStation i r).station j = s.station j := by
  simp [State.station, PerStation.get_set_other _ _ _ _ h]

@[simp] theorem State.mapStation_same (s : State) (i : StationId) (f : StationRecord → StationRecord) :
    (s.mapStation i f).station i = f (s.station i) := by simp [State.mapStation]

theorem State.mapStation_other (s : State) (i j : StationId) (f : StationRecord → StationRecord) (h : j ≠ i) :
    (s.mapStation i f).station j = s.station j := by
  simp [State.mapStation, State.setStation_other _ _ _ _ h]

@[simp] theorem State.mapContext_same (s : State) (i : StationId) (f : CallContext → CallContext) :
    (s.mapContext i f).station i = { s.station i with context := (s.station i).context.map f } := by
  simp [State.mapContext]

theorem State.mapContext_other (s : State) (i j : StationId) (f : CallContext → CallContext) (h : j ≠ i) :
    (s.mapContext i f).station j = s.station j := by
  simp [State.mapContext, State.mapStation_other _ _ _ _ h]

/-- Two writes of one station record: the later stands. -/
@[simp] theorem State.setStation_setStation (s : State) (i : StationId) (r t : StationRecord) :
    (s.setStation i r).setStation i t = s.setStation i t := by
  simp [State.setStation]

/-- Writing back what a station holds changes nothing. -/
@[simp] theorem State.setStation_self (s : State) (i : StationId) : s.setStation i (s.station i) = s := by
  simp [State.setStation, State.station]

@[simp] theorem State.setOrder_same (s : State) (i : StationId) (o : Option BurnOrder) : (s.setOrder i o).order i = o := by
  simp [State.order]

theorem State.setOrder_other (s : State) (i j : StationId) (o : Option BurnOrder) (h : j ≠ i) :
    (s.setOrder i o).order j = s.order j := by
  simp [State.order, PerStation.get_set_other _ _ _ _ h]

/-! ## Banks -/

@[simp] theorem State.setBank_same (s : State) (x : BankId) (b : Bank) : (s.setBank x b).bank x = b := by
  cases x <;> rfl

@[simp] theorem State.setBank_other (s : State) (x : BankId) (b : Bank) : (s.setBank x b).bank x.other = s.bank x.other := by
  cases x <;> rfl

@[simp] theorem BankId.other_other (x : BankId) : x.other.other = x := by cases x <;> rfl

theorem BankId.other_ne (x : BankId) : x.other ≠ x := by cases x <;> simp [BankId.other]

theorem BankId.eq_or_other (x y : BankId) : y = x ∨ y = x.other := by cases x <;> cases y <;> simp [BankId.other]

@[simp] theorem State.unpinBank_same (s : State) (x : BankId) : (s.unpinBank x).bank x = (s.bank x).unpinned := by
  simp [State.unpinBank]

@[simp] theorem State.unpinBank_other (s : State) (x : BankId) : (s.unpinBank x).bank x.other = s.bank x.other := by
  simp [State.unpinBank]

/-! ## Offers -/

/-- With room, the frame joins the tail, and an EMPTY sending side waits with attempt count 0. -/
theorem RowLine.offer_of_room (r : RowLine) (f : RowOutFrame) (h : r.outbound.length < rowOutboundRoom) :
    r.offer f = { r with
      outbound := r.outbound ++ [f],
      sending := if r.sending = .empty then .waiting else r.sending,
      attempts := if r.sending = .empty then 0 else r.attempts } := by
  simp [RowLine.offer, RowLine.hasRoom, h]

/-- Without room, nothing is queued. -/
theorem RowLine.offer_of_full (r : RowLine) (f : RowOutFrame) (h : rowOutboundRoom ≤ r.outbound.length) : r.offer f = r := by
  simp [RowLine.offer, RowLine.hasRoom, Nat.not_lt.2 h]

@[simp] theorem RowLine.offer_inbound (r : RowLine) (f : RowOutFrame) : (r.offer f).inbound = r.inbound := by
  unfold RowLine.offer; split <;> rfl

@[simp] theorem RowLine.offer_line (r : RowLine) (f : RowOutFrame) : (r.offer f).line = r.line := by
  unfold RowLine.offer; split <;> rfl

@[simp] theorem RowLine.offer_answer (r : RowLine) (f : RowOutFrame) : (r.offer f).answer = r.answer := by
  unfold RowLine.offer; split <;> rfl

/-- The outbound queue keeps to its room. -/
theorem RowLine.offer_length (r : RowLine) (f : RowOutFrame) (h : r.outbound.length ≤ rowOutboundRoom) :
    (r.offer f).outbound.length ≤ rowOutboundRoom := by
  by_cases hr : r.outbound.length < rowOutboundRoom
  · rw [RowLine.offer_of_room r f hr]; simp; omega
  · rw [RowLine.offer_of_full r f (by omega)]; exact h

theorem ExchangeLink.offer_of_room (x : ExchangeLink) (m : LinkMsg) (hl : x.link = .up)
    (h : x.outbound.length < linkOutboundRoom) : x.offer m = { x with outbound := x.outbound ++ [m] } := by
  simp [ExchangeLink.offer, ExchangeLink.hasRoom, h, hl]

/-- A DOWN link or a full queue loses the frame. -/
theorem ExchangeLink.offer_lost (x : ExchangeLink) (m : LinkMsg) (h : x.link = .down ∨ linkOutboundRoom ≤ x.outbound.length) :
    x.offer m = x := by
  rcases h with h | h
  · simp [ExchangeLink.offer, h]
  · simp [ExchangeLink.offer, ExchangeLink.hasRoom, Nat.not_lt.2 h]

@[simp] theorem ExchangeLink.offer_link (x : ExchangeLink) (m : LinkMsg) : (x.offer m).link = x.link := by
  unfold ExchangeLink.offer; split <;> rfl

@[simp] theorem ExchangeLink.offer_silence (x : ExchangeLink) (m : LinkMsg) : (x.offer m).silence = x.silence := by
  unfold ExchangeLink.offer; split <;> rfl

@[simp] theorem ExchangeLink.offer_inbound (x : ExchangeLink) (m : LinkMsg) : (x.offer m).inbound = x.inbound := by
  unfold ExchangeLink.offer; split <;> rfl

@[simp] theorem ExchangeLink.offer_detached (x : ExchangeLink) (m : LinkMsg) : (x.offer m).detached = x.detached := by
  unfold ExchangeLink.offer; split <;> rfl

theorem ExchangeLink.offer_length (x : ExchangeLink) (m : LinkMsg) (h : x.outbound.length ≤ linkOutboundRoom) :
    (x.offer m).outbound.length ≤ linkOutboundRoom := by
  unfold ExchangeLink.offer
  split
  next hc =>
    have : x.outbound.length < linkOutboundRoom := by simpa [ExchangeLink.hasRoom] using hc.2
    simp; omega
  next => exact h

/-! ## The clear -/

/-- A clear is completed only from CLEARING with released and order resolved both true. -/
theorem State.completeIfDone_cases (s : State) (i : StationId) :
    s.completeIfDone i = s ∨
      ∃ x, (s.station i).state = .clearing ∧ (s.station i).context = some x ∧ x.released = true ∧
        x.orderResolved = some true ∧ s.completeIfDone i = s.complete i x := by
  unfold State.completeIfDone
  split
  next x h1 h2 =>
    split
    next h => exact Or.inr ⟨x, h1, h2, h.1, h.2, rfl⟩
    next => exact Or.inl rfl
  next => exact Or.inl rfl

theorem State.completeIfDone_of_done (s : State) (i : StationId) (x : CallContext) (h1 : (s.station i).state = .clearing)
    (h2 : (s.station i).context = some x) (h3 : x.released = true) (h4 : x.orderResolved = some true) :
    s.completeIfDone i = s.complete i x := by
  simp [State.completeIfDone, h1, h2, h3, h4]

theorem State.completeIfDone_of_waiting (s : State) (i : StationId) (x : CallContext)
    (h2 : (s.station i).context = some x) (h3 : ¬(x.released = true ∧ x.orderResolved = some true)) :
    s.completeIfDone i = s := by
  unfold State.completeIfDone
  split
  next y h1 h2' =>
    rw [h2] at h2'
    cases h2'
    simp [h3]
  next => rfl

/-- R15: a clear that the part starts never completes within the event that starts it: released is false. -/
theorem State.startClear_eq (s : State) (i : StationId) (c : EndCause) :
    s.startClear i c =
      ((s.mapStation i (StationRecord.cleared s.elapsed c false (s.orderFree i))).offerLink
        (.callClear i (.cause c))).tellStation i (.callEnded c) := by
  unfold State.startClear
  cases h : (s.station i).context with
  | none => simp [State.completeIfDone, StationRecord.cleared, h]
  | some x =>
    apply State.completeIfDone_of_waiting
    · simp only [State.tellStation_station, State.offerLink_station, State.mapStation_same, StationRecord.cleared, h,
        Option.map_some]
      rfl
    · simp [CallContext.cleared]

/-! ## The blocks that no call, card or order operation touches -/

/-- Pins, elapsed time, clock, management, free values and waiting commands. -/
def State.still (s : State) : Pins × Nat × TimeBase × Management × Nat × List Instr :=
  (s.pins, s.elapsed, s.tb, s.mu, s.free, s.pending)

theorem State.still_iff (s t : State) : t.still = s.still ↔
    t.pins = s.pins ∧ t.elapsed = s.elapsed ∧ t.tb = s.tb ∧ t.mu = s.mu ∧ t.free = s.free ∧ t.pending = s.pending := by
  simp [State.still]

@[simp] theorem State.setStation_still (s : State) (i : StationId) (r : StationRecord) : (s.setStation i r).still = s.still := rfl
@[simp] theorem State.mapStation_still (s : State) (i : StationId) (f : StationRecord → StationRecord) : (s.mapStation i f).still = s.still := rfl
@[simp] theorem State.mapContext_still (s : State) (i : StationId) (f : CallContext → CallContext) : (s.mapContext i f).still = s.still := rfl
@[simp] theorem State.setOrder_still (s : State) (i : StationId) (o : Option BurnOrder) : (s.setOrder i o).still = s.still := rfl
@[simp] theorem State.withCards_still (s : State) (cs : List CardRecord) : (s.withCards cs).still = s.still := rfl
@[simp] theorem State.setBank_still (s : State) (x : BankId) (b : Bank) : (s.setBank x b).still = s.still := rfl
@[simp] theorem State.pinBank_still (s : State) (x : BankId) : (s.pinBank x).still = s.still := rfl
@[simp] theorem State.unpinBank_still (s : State) (x : BankId) : (s.unpinBank x).still = s.still := rfl
@[simp] theorem State.offerRow_still (s : State) (f : RowOutFrame) : (s.offerRow f).still = s.still := rfl
@[simp] theorem State.tellStation_still (s : State) (i : StationId) (m : RowMsg) : (s.tellStation i m).still = s.still := rfl
@[simp] theorem State.tellCard_still (s : State) (i : StationId) (m : RowMsg) : (s.tellCard i m).still = s.still := rfl
@[simp] theorem State.offerLink_still (s : State) (m : LinkMsg) : (s.offerLink m).still = s.still := rfl
@[simp] theorem State.storeRecord_still (s : State) (i : StationId) (x : CallContext) : (s.storeRecord i x).still = s.still := rfl
@[simp] theorem State.countFailure_still (s : State) (i : StationId) (out : OrderOutcome) : (s.countFailure i out).still = s.still := rfl
@[simp] theorem State.forgetTag_still (s : State) (i : StationId) (t : Nat) : (s.forgetTag i t).still = s.still := rfl

@[simp] theorem State.removeCard_still (s : State) (i : StationId) : (s.removeCard i).still = s.still := by
  unfold State.removeCard; split <;> simp

@[simp] theorem State.complete_still (s : State) (i : StationId) (x : CallContext) : (s.complete i x).still = s.still := by
  unfold State.complete; dsimp only; split <;> simp

@[simp] theorem State.completeIfDone_still (s : State) (i : StationId) : (s.completeIfDone i).still = s.still := by
  unfold State.completeIfDone; split <;> (try split) <;> simp

@[simp] theorem State.startClear_still (s : State) (i : StationId) (c : EndCause) : (s.startClear i c).still = s.still := by
  rw [State.startClear_eq]; simp

@[simp] theorem State.clearLinkDown_still (s : State) (i : StationId) : (s.clearLinkDown i).still = s.still := by
  simp [State.clearLinkDown]

@[simp] theorem State.exchangeClear_still (s : State) (i : StationId) (x : Byte) : (s.exchangeClear i x).still = s.still := by
  simp [State.exchangeClear]

@[simp] theorem State.releaseCall_still (s : State) (i : StationId) : (s.releaseCall i).still = s.still := by
  unfold State.releaseCall; split <;> (try split) <;> simp

@[simp] theorem State.linkDownStation_still (s : State) (i : StationId) : (s.linkDownStation i).still = s.still := by
  unfold State.linkDownStation; split <;> simp

@[simp] theorem State.takeOut_still (s : State) (i : StationId) (r : OutReason) : (s.takeOut i r).still = s.still := by
  unfold State.takeOut; split <;> simp

@[simp] theorem State.lostToBar_still (s : State) (i : StationId) : (s.lostToBar i).still = s.still := by
  unfold State.lostToBar; split <;> simp

@[simp] theorem State.barCard_still (s : State) (i : StationId) (x : Serial) (c : Byte) : (s.barCard i x c).still = s.still := by
  simp [State.barCard]

@[simp] theorem State.acceptCard_still (s : State) (i : StationId) (x : Serial) (batch units : Nat) : (s.acceptCard i x batch units).still = s.still := by
  rfl

@[simp] theorem State.openCall_still (s : State) (i : StationId) (digits : List Digit) (x : BankId) (k : CallKind) : (s.openCall i digits x k).still = s.still := by
  rfl

@[simp] theorem State.judgeNumber_still (s : State) (i : StationId) (digits : List Digit) : (s.judgeNumber i digits).still = s.still := by
  unfold State.judgeNumber; split <;> simp

@[simp] theorem State.cardUpdate_still (s : State) (o : BurnOrder) (out : OrderOutcome) : (s.cardUpdate o out).still = s.still := by
  unfold State.cardUpdate; split <;> simp

@[simp] theorem State.markFinal_still (s : State) (i : StationId) (c : FinalCause) : (s.markFinal i c).still = s.still := by
  rfl

@[simp] theorem State.cutBack_still (s : State) (i : StationId) (l : List Interval) (c : FinalCause) : (s.cutBack i l c).still = s.still := by
  unfold State.cutBack; dsimp only; split <;> simp

@[simp] theorem State.outcomeInTalk_still (s : State) (i : StationId) (o : BurnOrder) (out : OrderOutcome) (x : CallContext) : (s.outcomeInTalk i o out x).still = s.still := by
  unfold State.outcomeInTalk; dsimp only; split <;> simp

@[simp] theorem State.resolveOrder_still (s : State) (i : StationId) : (s.resolveOrder i).still = s.still := by
  simp [State.resolveOrder]

@[simp] theorem State.outcomeToCall_still (s : State) (i : StationId) (o : BurnOrder) (out : OrderOutcome) : (s.outcomeToCall i o out).still = s.still := by
  unfold State.outcomeToCall; dsimp only; split <;> simp

@[simp] theorem State.outcomeSteps_still (s : State) (i : StationId) (o : BurnOrder) (out : OrderOutcome) : (s.outcomeSteps i o out).still = s.still := by
  unfold State.outcomeSteps; dsimp only; split <;> simp

@[simp] theorem State.issueOrder_still (s : State) (i : StationId) (x : Serial) (units : Nat) (p : Purpose) :
    (s.issueOrder i x units p).still = s.still := by
  unfold State.issueOrder; dsimp only; split
  next => rfl
  next => simp; rfl

@[simp] theorem State.replenish_still (s : State) (i : StationId) (x : BankId) (b : Band) (card : Serial) :
    (s.replenish i x b card).still = s.still := by
  unfold State.replenish; dsimp only; split <;> simp

@[simp] theorem State.considerReplenish_still (s : State) (i : StationId) : (s.considerReplenish i).still = s.still := by
  unfold State.considerReplenish; split <;> (try split) <;> (try split) <;> simp

@[simp] theorem State.takeOutcome_still (s : State) (i : StationId) (o : BurnOrder) (out : OrderOutcome) :
    (s.takeOutcome i o out).still = s.still := by
  unfold State.takeOutcome; split <;> simp

@[simp] theorem State.answerCall_still (s : State) (i : StationId) : (s.answerCall i).still = s.still := by
  unfold State.answerCall
  split
  next x _ _ =>
    split
    next => simp [State.answerFree]
    next b _ =>
      unfold State.answerCharged
      dsimp only
      split
      next card _ =>
        split
        next => simp
        next => simp [State.openTalk]
      next => simp
  next => simp

@[simp] theorem State.headExpired_still (s : State) (i : StationId) (x : CallContext) :
    (s.headExpired i x).still = s.still := by
  unfold State.headExpired; split <;> (try split) <;> simp

@[simp] theorem State.retireTag_still (s : State) (i : StationId) (o : BurnOrder) : (s.retireTag i o).still = s.still := by
  unfold State.retireTag; split <;> rfl

@[simp] theorem State.takeReport_still (s : State) (i : StationId) (tag burned now : Nat) :
    (s.takeReport i tag burned now).still = s.still := by
  unfold State.takeReport; split <;> (try split) <;> simp

@[simp] theorem State.burnDelivered_still (s : State) (i : StationId) (t : Nat) : (s.burnDelivered i t).still = s.still := by
  unfold State.burnDelivered; split <;> simp

@[simp] theorem State.burnUndelivered_still (s : State) (i : StationId) (t : Nat) :
    (s.burnUndelivered i t).still = s.still := by
  unfold State.burnUndelivered; split <;> simp

/-! ## Commands of the running part -/

/-- An event of the running part has its effect. -/
theorem whenRunning_of_running (f : State → State) (s : State) (h : s.running = true) : whenRunning f s = .next (f s) := by
  simp [whenRunning, h]

/-- Without supply or under RESET it has none. -/
theorem whenRunning_of_not_running (f : State → State) (s : State) (h : s.running = false) : whenRunning f s = .next s := by
  simp [whenRunning, h]

/-- Either way it answers a next state. -/
theorem whenRunning_next (f : State → State) (s t : State) (h : whenRunning f s = .next t) :
    t = if s.running then f s else s := by
  unfold whenRunning at h
  injection h with h
  exact h.symm

/-! ## ATTN -/

/-- The four conditions of R144. -/
theorem State.attnHolds_iff (s : State) : s.attnHolds = true ↔
    384 ≤ s.rq.records.length ∨ s.xlc.link = .down ∨ s.tb.trusted = false ∨
      ∃ i : StationId, (s.station i).state = .outOfService ∧ (s.station i).outReason = some .stationFault := by
  have h : s.cc.values.any StationRecord.holdsAttn = true ↔
      ∃ i : StationId, (s.station i).state = .outOfService ∧ (s.station i).outReason = some .stationFault := by
    rw [List.any_eq_true]
    constructor
    · rintro ⟨r, hr, hh⟩
      obtain ⟨i, rfl⟩ := (PerStation.mem_values s.cc r).1 hr
      have : ((s.station i).state == .outOfService && (s.station i).outReason == some .stationFault) = true := hh
      exact ⟨i, by simpa using this⟩
    · rintro ⟨i, hi⟩
      exact ⟨s.station i, (PerStation.mem_values s.cc _).2 ⟨i, rfl⟩, by simpa [StationRecord.holdsAttn] using hi⟩
  unfold State.attnHolds
  rw [Bool.or_eq_true, Bool.or_eq_true, Bool.or_eq_true, h]
  simp [or_assoc]

end Sys2Proof.Machine
end

