-- ==== Sys2Proof/WellFormed.lean ====
section
/-! DEFINITION. Which commands are well formed. Only the two received frames carry data that can be ill formed:
the bytes of one frame begin with at least one byte and end no later than the frame they spell
(R147: "The frame ends with its check byte, and the length field tells the receiver where that byte stands";
R163 for the link). Fewer bytes are well formed: that is a broken frame. -/

namespace Sys2Proof

/-- The bytes heard end where the frame they spell ends, or before. `header` bytes precede the data, the last of
them the length field; at most `maxData` data bytes and `trailer` check bytes follow. A length field above
`maxData` stops the reading at that byte. -/
def frameFits (header maxData trailer : Nat) (bytes : List Byte) : Bool :=
  match bytes[header - 1]? with
  | none => true
  | some n =>
    if n.toNat ≤ maxData then bytes.length ≤ header + n.toNat + trailer
    else bytes.length == header

/-- A command is well formed: a received frame has a first byte and no bytes beyond its end. -/
def Instr.wellFormed : Instr → Bool
  | .rowFrameReceived bytes => !bytes.isEmpty && frameFits 4 20 1 bytes
  | .linkFrameReceived bytes => !bytes.isEmpty && frameFits 3 48 2 bytes
  | .powerUp | .resetAsserted | .powerLoss | .vbakLost
  | .cardIn | .cardOut | .number | .hookOn | .burnReport
  | .lineFree | .retry | .spoiledTransmission | .acknowledgeSlot _ | .broadcastSent
  | .callAnswered | .callClear | .callReleased | .clock | .linkFrameSent
  | .selectPage | .writeEntries | .readEntries | .activateBank | .setService | .setStation
  | .readStation | .readStatus | .fetchRecord | .releaseRecords | .removeAutobar | .restartLine
  | .mgmtRequestUnknown
  | .answerTimerExpiry _ | .releaseTimerExpiry _ | .headIntervalExpiry _ | .replyTimerExpiry _
  | .rememberTimerExpiry _ | .silenceTimerExpiry | .untrustTimerExpiry | .timeOfDayTick => true

end Sys2Proof
end

