-- ==== Sys2Proof/Tests/Slice0.lean ====
section
/-! SUPPORT. The model's own tests: what WellFormed refuses, the byte layouts of 11.2 to 11.6 written out from the spec, one
small step of each command, and for each obligation with hypotheses a state that meets them. -/

namespace Sys2Proof.Machine.Tests

open Sys2Proof Sys2Proof.Machine

set_option Elab.async false

/-! ## Well-formedness -/

theorem test_wf_empty_row_frame : (Instr.rowFrameReceived []).wellFormed = false := by decide
theorem test_wf_row_frame_too_long : (Instr.rowFrameReceived [5, 0, 2, 0, 0x64, 0]).wellFormed = false := by decide
theorem test_wf_row_length_field_over : (Instr.rowFrameReceived [5, 0, 2, 21, 0]).wellFormed = false := by decide
theorem test_wf_row_frame_whole : (Instr.rowFrameReceived [5, 0, 2, 0, 0x64]).wellFormed = true := by decide
theorem test_wf_row_frame_broken : (Instr.rowFrameReceived [5, 0, 2, 21]).wellFormed = true := by decide
theorem test_wf_empty_link_frame : (Instr.linkFrameReceived []).wellFormed = false := by decide
theorem test_wf_link_frame_too_long : (Instr.linkFrameReceived [0x24, 1, 0, 0, 0, 0]).wellFormed = false := by decide
theorem test_wf_link_length_field_over : (Instr.linkFrameReceived [0x26, 0, 49, 0]).wellFormed = false := by decide
theorem test_wf_link_frame_whole : (Instr.linkFrameReceived [0x24, 1, 0, 0, 0]).wellFormed = true := by decide

/-! ## Layouts and checks of section 11 -/

/-- R191, the worked example: CARD_OUT from station 5. -/
theorem test_row_check_of_the_example : rowCheck [0x05, 0x00, 0x02, 0x00] = 0x64 := by decide +kernel

theorem test_row_check_registers : [[0x05], [0x05, 0x00], [0x05, 0x00, 0x02], [0x05, 0x00, 0x02, 0x00]].map rowCheck
    = [0x1B, 0x41, 0xCE, 0x64] := by decide +kernel

/-- The check of the generator 1021h from FFFFh over the digits 1 to 9 is 29B1h. -/
theorem test_link_check_of_digits : linkCheck [0x31, 0x32, 0x33, 0x34, 0x35, 0x36, 0x37, 0x38, 0x39] = 0x29B1 := by
  decide +kernel

theorem test_read_card_out : judgeRow [0x05, 0x00, 0x02, 0x00, 0x64] = .accepted ⟨4, .cardOut⟩ := by decide +kernel
theorem test_read_wrong_check : judgeRow [0x05, 0x00, 0x02, 0x00, 0x65] = .silent := by decide +kernel

theorem test_read_card_in : rowMsgOf 0x01 [0x12, 0x34, 0x56, 0x78, 0x00, 0x09, 0x01, 0x2C]
    = some (.cardIn 0x12345678 9 300) := by decide +kernel

theorem test_read_number_odd_count : rowMsgOf 0x03 [0x03, 0x12, 0x3F] = some (.number [1, 2, 3]) := by decide +kernel
theorem test_read_number_bad_filler : rowMsgOf 0x03 [0x03, 0x12, 0x34] = none := by decide +kernel
theorem test_read_number_bad_digit : rowMsgOf 0x03 [0x02, 0x1A] = none := by decide +kernel
theorem test_read_burn_report : rowMsgOf 0x05 [0xFF, 0x00, 0x04, 0x27, 0x0F] = some (.burnReport 255 4 9999) := by
  decide +kernel

theorem test_read_link_frames : [linkMsgOf 0x24 48 [], linkMsgOf 0x22 1 [0x10], linkMsgOf 0x23 2 [],
      linkMsgOf 0x26 0 [0x08, 0x55], linkMsgOf 0x24 0 [], linkMsgOf 0x26 0 [0x08], linkMsgOf 0x21 1 [1, 0x1F]]
    = [some (.callAnswered 47), some (.callClear 0 0x10), some (.callReleased 1), some (.mgmtRequest 8 0x55 []), none, none,
       none] := by decide +kernel

theorem test_write_part_row_frames : ([⟨.station 47, .cardRefused (.barred 7), .ct⟩, ⟨.station 0, .burn 1 0xA0B0C0D0 260, .de⟩,
      ⟨.broadcast, .service .opened, .mu⟩] : List RowOutFrame).map (fun f => (f.dest.node, f.msg.kind, f.msg.data))
    = [(0x30, 0x12, [0x08, 0x07]), (0x01, 0x15, [0x01, 0xA0, 0xB0, 0xC0, 0xD0, 0x01, 0x04]), (0x3F, 0x19, [0x01])] := by
  decide +kernel

theorem test_write_part_link_frames : [LinkMsg.callOpen 0 [0, 2, 1], .callClear 4 .noCall, .callReleased 2,
      .mgmtReply 0x0A 9 .done (.released 3 1)].map LinkMsg.parts
    = [(0x21, 1, [3, 0x02, 0x1F]), (0x22, 5, [0xFF]), (0x23, 3, []), (0x27, 0, [0x0A, 9, 0, 0, 3, 0, 1])] := by
  decide +kernel

theorem test_read_entries : readHot [1, 0, 0, 0, 1, 0, 0, 1, 0, 7] = .content ⟨1, 256, 7⟩ ∧
    readBatch [1, 0, 9, 0x27, 0x0F, 1] = .content ⟨9, 9999, .withdrawn⟩ ∧
    readPrefix [1, 3, 0x02, 0x1F, 0xFF, 0xFF, 0xFF, 1, 3] = .content ⟨[0, 2, 1], .band 3⟩ ∧
    readBand [1, 0x17, 0x70, 50, 0] = .content ⟨6000, 50, 0⟩ ∧ readCalendar [1, 0x05, 0x9F, 3] = .content ⟨1439, 3⟩ := by
  decide +kernel

theorem test_entries_out_of_range : readHot [1, 0, 0, 0, 1, 0, 0, 1, 0, 0] = .outOfRange ∧
    readBatch [1, 0, 9, 0x27, 0x10, 1] = .outOfRange ∧ readPrefix [1, 3, 0x02, 0x1F, 0xFF, 0xFF, 0xFF, 2, 3] = .outOfRange ∧
    readBand [1, 0x17, 0x71, 50, 0] = .outOfRange ∧ readCalendar [2, 0x05, 0x9F, 3] = .outOfRange ∧
    readCalendar [0, 0x05, 0xA0, 9] = .empty := by decide +kernel

/-! ## Small states -/

/-- The tariff of the tests: 0 is band 3, 15 is free, 9 is barred; band 3 is 30 tenths for 2 units, setup 1. -/
def tariff : Bank :=
  { state := .active, pins := 0,
    prefixes := [(0, ⟨[0], .band 3⟩), (1, ⟨[1, 5], .free⟩), (2, ⟨[9], .barred⟩)],
    bands := [12, 13, 14, 15].map fun k => (k, ⟨30, 2, 1⟩),
    calendar := [(0, ⟨0, 1⟩), (1, ⟨600, 2⟩)] }

/-- A part in service: link UP, clock trusted, bank A ACTIVE, two batches, one hot-list range and one barred serial. -/
def live : State :=
  let r := State.reset
  { r with
    pins := { supply := true, reset := false, attn := false }, elapsed := 500,
    xlc := { r.xlc with link := .up, silence := some 300 },
    ct := { cards := [], batches := [(0, ⟨9, 100, .current⟩), (1, ⟨7, 50, .withdrawn⟩)], hot := [(0, ⟨500, 600, 4⟩)],
            autobar := [700] },
    ts := { a := tariff, b := Bank.reset },
    tb := { date := ⟨24, 5, 6⟩, dayType := .weekday, time := ⟨12, 0, 0, 0⟩, trusted := true, untrust := some 1200 },
    mu := { r.mu with service := .opened } }

/-- The record of serial 100, 60 units. -/
def card (st : CardState) : CardRecord :=
  { serial := 100, batch := 9, state := st, confirmed := 60, uncertainLow := none, strikes := 0 }

/-- A call context in bank A. -/
def call (k : CallKind) : CallContext :=
  { dialled := [0, 2, 1], kind := k, card := some (100, 9), bank := .a, openTime := live.tb.reading, answered := false,
    answerMark := none, atAnswer := none, intervalsBegun := 0, unitsBurned := 0, unresolved := none, finalMark := none,
    talkDuration := none, endCause := none, released := false, orderResolved := none }

/-- `live` with station `i` in state `st`, naming serial 100 or not, its record ACTIVE there. -/
def at' (i : StationId) (st : StationState) (x : Option CallContext) : State :=
  { live.withCards [card (.active i)] with
    ts := { a := { tariff with pins := if x.isSome then 1 else 0 }, b := Bank.reset },
    rq := { live.rq with reservations := if x.isSome then 1 else 0 } }.setStation i
    { StationRecord.reset with state := st, card := some 100, context := x }

def ready : State := at' 0 .ready none
def setup (k : CallKind) : State :=
  let s := at' 0 .setup (some (call k))
  s.setStation 0 { s.station 0 with answerTimer := some 1200 }
/-- A CHARGED call in TALK, with the given list and head timer. -/
def talk (l : List Interval) (t : Nat) : State :=
  let s := at' 0 .talk (some { call (.charged 3) with answered := true, answerMark := some 400, atAnswer := some (3, 1),
                                                      intervalsBegun := 1 })
  s.setStation 0 { s.station 0 with intervals := l, headTimer := some t }
/-- A call being cleared. -/
def clearing (released : Bool) (resolved : Bool) : State :=
  let s := at' 0 .clearing (some { call (.charged 3) with endCause := some .hookOn, released := released,
                                                           orderResolved := some resolved })
  s.setStation 0 { s.station 0 with releaseTimer := if released then none else some 0 }

def paid : Interval := ⟨30, 2, .paid⟩
def priced : Interval := ⟨30, 2, .priced⟩

/-- An order of 4 units for serial 100 under tag 1. -/
def order (st : OrderState) : BurnOrder :=
  { tag := 1, serial := 100, units := 4, purpose := .opening, state := st, settled := false }

def hears (s : State) (m : RowInMsg) : State := { s with rlc := { s.rlc with inbound := [⟨0, m⟩] } }
def gets (s : State) (m : LinkInMsg) : State := { s with xlc := { s.xlc with inbound := [m] } }
def asked (s : State) (name : Byte) (data : List Byte) : State := gets s (.mgmtRequest name 5 data)
/-- The frame at the head of the row outbound queue, in state `st` after `n` transmissions. -/
def sends (s : State) (st : SendState) (n : Nat) (f : RowOutFrame) : State :=
  { s with rlc := { s.rlc with outbound := [f], sending := st, attempts := n } }
def burnFrame : RowOutFrame := ⟨.station 0, .burn 1 100 4, .de⟩
def plainFrame : RowOutFrame := ⟨.station 0, .connected, .cc⟩
def toAll : RowOutFrame := ⟨.broadcast, .service .opened, .mu⟩

/-- The state a command leaves. -/
def after (c : Instr) (s : State) : State :=
  match exec c s with
  | .next t => t
  | .fault _ => s
  | .refused _ => s

/-! ## One step of each command -/

theorem test_step_power_up : (after .powerUp live).rq = { RecordQueue.reset with retained := true } ∧
    (after .powerUp live).pins.attn = true := by decide +kernel
theorem test_step_reset : (after .resetAsserted live).pins = ⟨true, true, true⟩ := by decide +kernel
theorem test_step_power_loss : (after .powerLoss live).pins.supply = false := by decide +kernel
theorem test_step_vbak_lost : (after .vbakLost (after .powerLoss live)).rq.store.vbakHeld = false := by decide +kernel
theorem test_step_row_frame : (after (.rowFrameReceived [0x05, 0x00, 0x02, 0x00, 0x64]) live).rlc.inbound = [⟨4, .cardOut⟩] ∧
    (after (.rowFrameReceived [0x05, 0x00, 0x02, 0x00, 0x64]) live).rlc.answer = some 0xA5 := by decide +kernel
theorem test_step_card_in : (after .cardIn (hears live (.cardIn 100 9 60))).rlc.outbound = [⟨.station 0, .cardOk 60, .ct⟩] ∧
    ((after .cardIn (hears live (.cardIn 100 9 60))).station 0).state = .ready := by decide +kernel
theorem test_step_card_in_barred : (after .cardIn (hears live (.cardIn 700 9 60))).rlc.outbound
    = [⟨.station 0, .cardRefused (.barred 0), .ct⟩] := by decide +kernel
theorem test_step_card_out : (after .cardOut (hears ready .cardOut)).ct.cards = [card (.remembered 3000)] ∧
    ((after .cardOut (hears ready .cardOut)).station 0).state = .idle := by decide +kernel
theorem test_step_number : (after .number (hears ready (.number [0, 2, 1]))).xlc.outbound = [.callOpen 0 [0, 2, 1]] ∧
    ((after .number (hears ready (.number [0, 2, 1]))).station 0).state = .setup := by decide +kernel
theorem test_step_number_refused : (after .number (hears ready (.number [9, 1]))).rlc.outbound
    = [⟨.station 0, .callRefused .barredNumber, .cc⟩] := by decide +kernel
theorem test_step_hook_on : (after .hookOn (hears (setup .free) .hookOn)).xlc.outbound = [.callClear 0 (.cause .hookOn)] := by
  decide +kernel
theorem test_step_burn_report : ((after .burnReport (hears ((talk [priced, priced] 30).setOrder 0 (some (order (.awaiting 30))))
    (.burnReport 1 4 56))).station 0).intervals = [paid, paid] := by decide +kernel
theorem test_step_burn_report_short : ((after .burnReport (hears ((talk [priced, priced] 30).setOrder 0
    (some { order (.awaiting 30) with units := 5 })) (.burnReport 1 3 57))).station 0).intervals = [paid] := by decide +kernel
theorem test_step_line_free : (after .lineFree (sends live .waiting 0 plainFrame)).rlc.line = [0, 1, 0x14, 0, 0x68] := by
  decide +kernel
theorem test_step_retry : (after .retry (sends live .retry 1 plainFrame)).rlc.attempts = 2 := by decide +kernel
theorem test_step_spoiled : (after .spoiledTransmission (sends live .sending 1 plainFrame)).rlc.sending = .retry := by
  decide +kernel
theorem test_step_slot_taken : (after (.acknowledgeSlot (some 0xA5)) ((sends live .sending 1 burnFrame).setOrder 0
    (some (order .sending)))).order 0 = some (order (.awaiting 30)) := by decide +kernel
theorem test_step_slot_silent_fourth : (after (.acknowledgeSlot none) ((sends live .sending 4 burnFrame).setOrder 0
    (some (order .sending)))).de.failures.get 0 = 1 := by decide +kernel
theorem test_step_broadcast_sent : (after .broadcastSent (sends live .sending 1 toAll)).rlc.sending = .empty := by
  decide +kernel
theorem test_step_link_frame : (after (.linkFrameReceived [0x23, 1, 0, 0x20, 0x3B]) State.reset).xlc
    = { State.reset.xlc with link := .up, silence := some 300, inbound := [.callReleased 0] } := by decide +kernel
theorem test_step_call_answered : ((after .callAnswered (gets (setup (.charged 3)) (.callAnswered 0))).station 0).intervals
    = [priced] := by decide +kernel
theorem test_step_call_answered_order : (after .callAnswered (gets (setup (.charged 3)) (.callAnswered 0))).order 0
    = some { order .sending with units := 3 } := by decide +kernel
theorem test_step_call_clear : ((after .callClear (gets (setup .free) (.callClear 0 16))).rq.records.map CallRecord.endCause)
    = [.exchangeClear 16] := by decide +kernel
theorem test_step_call_released : ((after .callReleased (gets (clearing false true) (.callReleased 0))).station 0).state
    = .ready := by decide +kernel
theorem test_step_clock : (after .clock (gets State.reset (.clock ⟨0, 2, 29, 1, 23, 59, 59⟩))).tb.date = ⟨0, 2, 29⟩ := by
  decide +kernel
theorem test_step_link_sent : (after .linkFrameSent { live with xlc := { live.xlc with outbound := [.callReleased 0] } }).xlc.outbound
    = [] := by decide +kernel
theorem test_step_select_page : (after .selectPage (asked live 1 [3, 2, 7])).mu.selector = .prefixes .b 7 := by decide +kernel
theorem test_step_write_entries : (after .writeEntries (asked { live with mu := { live.mu with selector := .batch, pointer := 63 } }
    2 [1, 1, 0, 3, 0, 120, 0])).ct.batches.getLast? = some (63, ⟨3, 120, .current⟩) := by decide +kernel
theorem test_step_write_entries_wraps : (after .writeEntries (asked { live with mu :=
    { live.mu with selector := .batch, pointer := 63 } } 2 [1, 1, 0, 3, 0, 120, 0])).mu.pointer = 0 := by decide +kernel
theorem test_step_read_entries : (after .readEntries (asked { live with mu := { live.mu with selector := .autobar } } 3
    [2])).xlc.outbound = [.mgmtReply 3 5 .done (.entries [.autobar (some 700), .autobar none])] := by decide +kernel
theorem test_step_activate_bank : (after .activateBank (asked live 4 [2])).xlc.outbound = [.mgmtReply 4 5 .invalid .nothing] := by
  decide +kernel
theorem test_step_set_service : (after .setService (asked live 5 [0])).rlc.outbound
    = [⟨.broadcast, .service .closed, .mu⟩] := by decide +kernel
theorem test_step_set_station : ((after .setStation (asked live 6 [48, 3, 0])).station 47).outReason = some .takenOut := by
  decide +kernel
theorem test_step_read_station : ((after .readStation (asked live 7 [48])).xlc.outbound.map fun m => m.parts.2.2.length)
    = [21] := by decide +kernel
theorem test_step_read_status : ((after .readStatus (asked live 8 [])).xlc.outbound.map fun m => m.parts.2.2)
    = [[8, 5, 0, 1, 2, 0, 0, 0, 1, 1, 0, 0, 0, 0, 1]] := by decide +kernel
theorem test_step_fetch_record : ((after .fetchRecord (asked (after .callClear (gets (setup .free) (.callClear 0 16))) 9
    [0])).xlc.outbound.map fun m => m.parts.2.2.length) = [0, 44] := by decide +kernel
theorem test_step_release_records : (after .releaseRecords (asked (after .callClear (gets (setup .free) (.callClear 0 16))) 10
    [0, 0, 0, 1])).rq.records = [] := by decide +kernel
theorem test_step_remove_autobar : (after .removeAutobar (asked live 11 [0, 0, 2, 0xBC])).ct.autobar = [] := by decide +kernel
theorem test_step_restart_line : (after .restartLine (asked (talk [paid] 30) 12 [])).rq.records.map CallRecord.endCause
    = [.restart] := by decide +kernel
theorem test_step_unknown : (after .mgmtRequestUnknown (asked live 13 [1])).xlc.outbound
    = [.mgmtReply 13 5 .unknown .nothing] := by decide +kernel
theorem test_step_answer_timer : let s := (setup .free).mapStation 0 fun r => { r with answerTimer := some 0 }
    ((after (.answerTimerExpiry 0) s).station 0).state = .clearing := by decide +kernel
theorem test_step_release_timer : ((after (.releaseTimerExpiry 0) (clearing false true)).station 0).context = none := by
  decide +kernel
theorem test_step_head_expiry : ((after (.headIntervalExpiry 0) (talk [paid, paid, paid] 0)).station 0).intervals
    = [paid, paid] := by decide +kernel
theorem test_step_head_expiry_late : (after (.headIntervalExpiry 0) (talk [paid, priced] 0)).xlc.outbound
    = [.callClear 0 (.cause .burnLate)] := by decide +kernel
theorem test_step_reply_timer : (after (.replyTimerExpiry 0) ((talk [paid, priced] 9).setOrder 0
    (some (order (.awaiting 0))))).ct.cards = [{ card (.active 0) with uncertainLow := some 56 }] := by decide +kernel
theorem test_step_remember_timer : (after (.rememberTimerExpiry 100) (live.withCards [card (.remembered 0)])).ct.cards = [] := by
  decide +kernel
theorem test_step_silence : let s := { setup .free with xlc := { live.xlc with silence := some 0 } }
    ((after .silenceTimerExpiry s).rq.records.map CallRecord.endCause) = [.linkDown] := by decide +kernel
theorem test_step_untrust : (after .untrustTimerExpiry { live with tb := { live.tb with untrust := some 0 } }).tb.trusted
    = false := by decide +kernel
theorem test_step_tick : (after .timeOfDayTick { live with tb := { live.tb with time := ⟨23, 59, 59, 9⟩ } }).tb.date
    = ⟨24, 5, 7⟩ := by decide +kernel

/-! ## The hypotheses of the obligations are met -/

/-- A waiting command, and an empty queue. -/
theorem test_met_StepRunsTheFrontCommand : { live with pending := [.timeOfDayTick] }.pending = [.timeOfDayTick] ∧
    live.pending = [] := by decide +kernel

/-- Supply present, absent, and RESET held. -/
theorem test_met_ResetHoldsThePart : live.pins.supply = true ∧ (after .powerLoss live).pins.supply = false ∧
    (after .powerLoss live).running = false ∧ (after .resetAsserted live).running = false ∧ ofPower .cardIn = false := by
  decide +kernel

/-- Both outcomes of the retained store. -/
theorem test_met_PowerUpState : (live.rq.store.vbakHeld = true ∧ live.rq.store.checkAgrees = true) ∧
    ¬((after .vbakLost (after .powerLoss live)).rq.store.vbakHeld = true) := by decide +kernel

theorem test_met_RecordsAcrossPowerLoss : live.running = true ∧ live.StoreCurrent ∧ live.pins.supply = true :=
  ⟨by decide +kernel, fun _ => by decide +kernel, by decide +kernel⟩

/-- While it transmits and not; a broken frame; and 20 data bytes. -/
theorem test_met_RowFrameJudged : live.running = true ∧ (sends live .sending 1 plainFrame).running = true ∧
    (sends live .sending 1 plainFrame).rlc.sending = .sending ∧ live.rlc.sending ≠ .sending ∧
    (List.replicate 20 (0 : Byte)).length ≤ 20 := by decide +kernel

theorem test_met_RowFrameJudged_broken :
    ¬∃ (origin dest kind : Byte) (data : List Byte) (check : Byte), data.length ≤ 20 ∧
      [0x05, 0x00, 0x02, 0x00] = rowFrame origin dest kind data check := by
  rintro ⟨o, d, k, l, c, -, h⟩
  have := congrArg List.length h
  simp [rowFrame] at this

/-- One place left and none, on each queue; a head in WAITING and in RETRY; a frame still on the link. -/
theorem test_met_OutboundQueuesFilledAndSent :
    { live.rlc with outbound := List.replicate 63 plainFrame }.outbound.length < 64 ∧
    64 ≤ { live.rlc with outbound := List.replicate 64 plainFrame }.outbound.length ∧ State.reset.xlc.link = .down ∧
    live.xlc.link = .up ∧ { live.xlc with outbound := List.replicate 127 (LinkMsg.callReleased 0) }.outbound.length < 128 ∧
    128 ≤ { live.xlc with outbound := List.replicate 128 (LinkMsg.callReleased 0) }.outbound.length ∧
    (sends live .waiting 0 plainFrame).running = true ∧ (sends live .waiting 0 plainFrame).rlc.sending = .waiting ∧
    (sends live .retry 1 plainFrame).rlc.outbound = [plainFrame] ∧ (sends live .retry 1 plainFrame).rlc.sending = .retry ∧
    live.xlc.detached = none ∧
    { live.xlc with outbound := [LinkMsg.callReleased 0] }.outbound = [LinkMsg.callReleased 0] ∧
    { live.xlc with detached := some (LinkMsg.callReleased 0) }.detached = some (LinkMsg.callReleased 0) := by
  decide +kernel

/-- A plain head, a BURN frame with its SENDING order, with another order, and with none; a broadcast. -/
theorem test_met_DeliveredHead :
    let plain := sends live .sending 1 plainFrame
    let burn := sends live .sending 1 burnFrame
    plain.running = true ∧ plain.rlc.sending = .sending ∧ plain.rlc.outbound = [plainFrame] ∧
    plainFrame.dest = .station 0 ∧ burn.rlc.outbound = [burnFrame] ∧ burnFrame.msg = .burn 1 100 4 ∧
    (burn.setOrder 0 (some (order .sending))).order 0 = some (order .sending) ∧ (order .sending).tag = 1 ∧
    (order .sending).state = .sending ∧ (order (.awaiting 3)).state ≠ .sending ∧ burn.order 0 = none ∧
    toAll.dest = .broadcast ∧ (sends live .sending 1 toAll).rlc.outbound = [toAll] := by decide +kernel

theorem test_met_DeliveredHead_plain : ∀ t x u, plainFrame.msg ≠ .burn t x u := by intro t x u h; cases h

/-- Three transmissions and four; BUSY, another byte and nothing heard. -/
theorem test_met_TransmissionNotTaken :
    let third := sends live .sending 3 burnFrame
    let fourth := sends live .sending 4 burnFrame
    third.running = true ∧ third.rlc.sending = .sending ∧ third.rlc.outbound = [burnFrame] ∧ third.rlc.attempts < 4 ∧
    4 ≤ fourth.rlc.attempts ∧ (some 0x5A : Option Byte) ≠ some 0xA5 ∧ (some 0x5A : Option Byte) ≠ some 0xC3 ∧
    (none : Option Byte) ≠ some 0xA5 ∧ burnFrame.dest = .station 0 ∧
    (fourth.setOrder 0 (some (order .sending))).order 0 = some (order .sending) ∧ fourth.order 0 = none := by
  decide +kernel

theorem test_met_TransmissionNotTaken_plain : ∀ i t x u, ¬(plainFrame.dest = .station i ∧ plainFrame.msg = .burn t x u) := by
  rintro i t x u ⟨-, h⟩; cases h

/-- A new card, a full table with its oldest REMEMBERED record, and a REMEMBERED card with as many units as it is known to
hold; the face of the batch is the upper bound. -/
theorem test_met_CardAdmitted :
    let new := hears live (.cardIn 100 9 100)
    let known := hears (live.withCards [card (.remembered 7)]) (.cardIn 100 9 60)
    new.running = true ∧ new.rlc.inbound = [⟨0, .cardIn 100 9 100⟩] ∧ (new.station 0).state = .idle ∧
    new.mu.service = .opened ∧ new.ct.batchEntry 9 = some ⟨9, 100, .current⟩ ∧ (100 : Nat) ≠ 0 ∧ new.ct.barCode 100 = none ∧
    new.ct.find 100 = none ∧ new.ct.cards.length < 96 ∧ known.ct.find 100 = some (card (.remembered 7)) ∧
    (card (.remembered 7)).isRemembered = true ∧ 60 ≤ (card (.remembered 7)).confirmed := by decide +kernel

def fullTable : State :=
  hears (live.withCards (List.replicate 95 { card (.active 1) with serial := 1 } ++ [{ card (.remembered 7) with serial := 2 }]))
    (.cardIn 100 9 60)

theorem test_met_CardAdmitted_full : fullTable.ct.find 100 = none ∧ 96 ≤ fullTable.ct.cards.length ∧
    fullTable.ct.cards = List.replicate 95 { card (.active 1) with serial := 1 } ++
      { card (.remembered 7) with serial := 2 } :: [] ∧
    (∀ q ∈ List.replicate 95 { card (.active 1) with serial := 1 }, q.isRemembered = false) := by decide +kernel

/-- More units than the face, and none: each the first check to fail. -/
theorem test_met_CardRefusedInOrder_units :
    let dear := hears live (.cardIn 100 9 101)
    let empty := hears live (.cardIn 100 9 0)
    (dear.running = true ∧ dear.rlc.inbound = [⟨0, .cardIn 100 9 101⟩] ∧ (dear.station 0).state = .idle ∧
      dear.mu.service = .opened ∧ dear.ct.batchEntry 9 = some ⟨9, 100, .current⟩ ∧ 100 < 101) ∧
    (empty.running = true ∧ empty.rlc.inbound = [⟨0, .cardIn 100 9 0⟩] ∧ (empty.station 0).state = .idle ∧
      empty.mu.service = .opened ∧ empty.ct.batchEntry 9 = some ⟨9, 100, .current⟩ ∧ 0 ≤ 100) ∧
    (after .cardIn dear).rlc.outbound = [⟨.station 0, .cardRefused .overFace, .ct⟩] ∧
    (after .cardIn empty).rlc.outbound = [⟨.station 0, .cardRefused .empty, .ct⟩] := by decide +kernel

/-- Each refusal of checks 1 to 6, the hot-list range at its last serial. -/
theorem test_met_CardRefusedInOrder :
    let s := hears live (.cardIn 600 9 100)
    s.running = true ∧ s.rlc.inbound = [⟨0, .cardIn 600 9 100⟩] ∧ (at' 0 .outOfService none).station 0 ≠ s.station 0 ∧
    ((at' 0 .outOfService none).station 0).state = .outOfService ∧ (ready.station 0).state ≠ .idle ∧
    State.reset.mu.service = .closed ∧ (s.station 0).state = .idle ∧ (∀ e ∈ s.ct.batches, e.2.batch ≠ 8) ∧
    s.ct.batchEntry 7 = some ⟨7, 50, .withdrawn⟩ ∧ s.ct.batchEntry 9 = some ⟨9, 100, .current⟩ ∧
    s.ct.hot = [] ++ (0, ⟨500, 600, 4⟩) :: [] ∧ (500 : Serial) ≤ 600 ∧
    (∀ p ∈ s.ct.hot, ¬(p.2.first ≤ 700 ∧ (700 : Serial) ≤ p.2.last)) ∧ 700 ∈ s.ct.autobar := by decide +kernel

/-- Serial 100 ACTIVE at station 2 with 1 and with 2 strikes, and REMEMBERED with fewer units than reported. -/
theorem test_met_StrikesCountAndThirdBars :
    let rec1 := fun st n => { card st with strikes := n }
    let s := fun st n => hears (live.withCards [rec1 st n]) (.cardIn 100 9 61)
    (s (.active 1) 1).running = true ∧ (s (.active 1) 1).rlc.inbound = [⟨0, .cardIn 100 9 61⟩] ∧
    ((s (.active 1) 1).station 0).state = .idle ∧ (s (.active 1) 1).mu.service = .opened ∧
    (s (.active 1) 1).ct.batchEntry 9 = some ⟨9, 100, .current⟩ ∧ (s (.active 1) 1).ct.barCode 100 = none ∧
    (s (.active 1) 1).ct.find 100 = some (rec1 (.active 1) 1) ∧ (s (.active 1) 2).ct.find 100 = some (rec1 (.active 1) 2) ∧
    (s (.remembered 5) 2).ct.find 100 = some (rec1 (.remembered 5) 2) ∧ (rec1 (.remembered 5) 2).confirmed < 61 := by
  decide +kernel

theorem test_met_CardBarredInUse : ready.ct.find 100 = some (card (.active 0)) ∧ (ready.station 0).state = .ready ∧
    (setup .free).ct.find 100 = some (card (.active 0)) ∧ ((setup .free).station 0).inCall = true ∧
    (clearing false true).ct.find 100 = some (card (.active 0)) ∧ ((clearing false true).station 0).state = .clearing := by
  decide +kernel

theorem test_met_CardOutAndMemory :
    let s := fun t => hears t .cardOut
    (s ready).running = true ∧ (s ready).rlc.inbound = [⟨0, .cardOut⟩] ∧ ((s ready).station 0).card = some 100 ∧
    (s ready).ct.find 100 = some (card (.active 0)) ∧ ((s ready).station 0).state = .ready ∧
    ((s (setup .free)).station 0).inCall = true ∧ ((s (clearing true false)).station 0).state = .clearing ∧
    ((s live).station 0).card = none ∧ (live.withCards [card (.remembered 0)]).ct.find 100 = some (card (.remembered 0)) := by
  decide +kernel

theorem test_met_HookOnByState :
    let s := fun t => hears t .hookOn
    (s live).running = true ∧ (s live).rlc.inbound = [⟨0, .hookOn⟩] ∧ ((s (setup .free)).station 0).state = .setup ∧
    ((s (talk [paid] 3)).station 0).state = .talk ∧ ((s live).station 0).state = .idle := by decide +kernel

theorem test_met_ClearStartedByThePart : ((setup .free).station 0).state = .setup ∧
    ((setup .free).station 0).context = some (call .free) ∧ ((talk [paid] 3).station 0).state = .talk ∧
    ((talk [paid] 3).station 0).context.isSome = true := by decide +kernel

theorem test_met_ExchangeClearByState :
    let s := fun t => gets t (.callClear 0 16)
    (s live).running = true ∧ (s live).xlc.inbound = [.callClear 0 16] ∧ ((s live).station 0).state = .idle ∧
    ((s (setup .free)).station 0).context = some (call .free) ∧ ((s (setup .free)).station 0).state = .setup ∧
    ((s (clearing true false)).station 0).state = .clearing ∧
    ((s (clearing true false)).station 0).context.map CallContext.released = some true ∧
    ((s (clearing false true)).station 0).context.map CallContext.released = some false := by decide +kernel

theorem test_met_ReleaseObtained :
    let s := fun t => gets t (.callReleased 0)
    (s live).running = true ∧ (s live).xlc.inbound = [.callReleased 0] ∧ ((s live).station 0).state ≠ .clearing ∧
    ((s (clearing true false)).station 0).state = .clearing ∧
    ((s (clearing true false)).station 0).context.map CallContext.released = some true ∧
    ((clearing false true).station 0).context.map CallContext.released = some false ∧
    ((clearing false true).station 0).releaseTimer = some 0 := by decide +kernel

/-- Waiting for the release, and done; with then_out set and clear. -/
theorem test_met_ClearCompletes :
    let c := fun s : State => ((s.station 0).context.map fun x => (x.released, x.orderResolved, x.endCause))
    ((clearing false true).station 0).state = .clearing ∧ c (clearing false true) = some (false, some true, some .hookOn) ∧
    c (clearing true true) = some (true, some true, some .hookOn) ∧ ((clearing true true).station 0).thenOut = false ∧
    (((clearing true true).mapStation 0 fun r => { r with thenOut := true }).station 0).thenOut = true := by decide +kernel

/-- Each value one beyond its range. -/
theorem test_met_StationPutInAndTakenOut_range : (48 : Byte) < 49 ∧ (3 : Byte) < 4 ∧ (1 : Byte) < 2 ∧
    (setStation [49, 1, 1] live).status = .range ∧ (setStation [48, 4, 1] live).status = .range ∧
    (setStation [48, 3, 2] live).status = .range ∧ (setStation [48, 3, 1] live).status = .done := by decide +kernel

/-- Classes 1 and 3 of station 48; OUT_OF_SERVICE, IDLE, READY, SETUP and CLEARING. -/
theorem test_met_StationPutInAndTakenOut : (code 1).toNat = 1 ∧ (code 3).toNat = 3 ∧ ¬(code 4).toNat ≤ 3 ∧
    ((live.mapStation 0 fun r => { r with state := .outOfService }).station 0).state = .outOfService ∧
    (live.station 0).state = .idle ∧ (ready.station 0).state = .ready ∧ (ready.station 0).card = some 100 ∧
    ready.ct.find 100 = some (card (.active 0)) ∧ ((setup .free).station 0).inCall = true ∧
    ((clearing false true).station 0).state = .clearing := by decide +kernel

/-- A FREE and a CHARGED call; the last place of the record queue and of the link queue. -/
theorem test_met_CallAdmitted :
    let s := hears { ready with rq := { ready.rq with reservations := 511 }, xlc :=
      { ready.xlc with outbound := List.replicate 127 (.callReleased 0) } } (.number [0, 2, 1])
    s.running = true ∧ s.rlc.inbound = [⟨0, .number [0, 2, 1]⟩] ∧ (s.station 0).state = .ready ∧ s.mu.service = .opened ∧
    s.xlc.link = .up ∧ s.activeBank = some .a ∧ (s.bank .a).lookup [0, 2, 1] = some (.band 3) ∧
    (s.bank .a).lookup [1, 5, 0] = some .free ∧ (s.station 0).card.isSome = true ∧
    (s.priceNow .a 3).setup + (s.priceNow .a 3).units ≤ s.cardBound 0 ∧ s.rq.records.length + s.rq.reservations < 512 ∧
    s.xlc.outbound.length < 128 := by decide +kernel

/-- Each refusal of R9. -/
theorem test_met_CallRefusedInOrder :
    let s := hears ready (.number [0, 2, 1])
    let poor := ready.withCards [{ card (.active 0) with confirmed := 2 }]
    s.running = true ∧ s.rlc.inbound = [⟨0, .number [0, 2, 1]⟩] ∧
    ((at' 0 .outOfService none).station 0).state = .outOfService ∧ ((setup .free).station 0).state = .setup ∧
    State.reset.mu.service = .closed ∧ State.reset.xlc.link = .down ∧ State.reset.activeBank = none ∧
    s.activeBank = some .a ∧ (s.bank .a).lookup [7] = none ∧ (s.bank .a).lookup [9] = some .barred ∧
    (s.bank .a).lookup [0, 2, 1] = some (.band 3) ∧ (live.station 0).card = none ∧ (poor.station 0).card ≠ none ∧
    poor.cardBound 0 < (poor.priceNow .a 3).setup + (poor.priceNow .a 3).units ∧ (s.bank .a).lookup [1, 5] = some .free ∧
    512 ≤ { s.rq with reservations := 512 }.reservations ∧
    128 ≤ { s.xlc with outbound := List.replicate 128 (LinkMsg.callReleased 0) }.outbound.length := by decide +kernel

theorem test_met_AnswerAndNoAnswer :
    let s := gets (setup .free) (.callAnswered 0)
    s.running = true ∧ s.xlc.inbound = [.callAnswered 0] ∧ (s.station 0).state = .setup ∧
    (s.station 0).context = some (call .free) ∧ (live.station 0).state ≠ .setup ∧
    (((setup .free).mapStation 0 fun r => { r with answerTimer := some 0 }).station 0).answerTimer = some 0 := by
  decide +kernel

/-- A card that pays one interval after the setup, and one that pays none. -/
theorem test_met_ChargedAnswer :
    let s := gets (setup (.charged 3)) (.callAnswered 0)
    let j := fun n => min (s.station 0).cls (((s.withCards [{ card (.active 0) with confirmed := n }]).lowerBound 100 -
      ((s.bank .a).price 3 (s.period .a 3)).setup) / ((s.bank .a).price 3 (s.period .a 3)).units)
    s.running = true ∧ s.xlc.inbound = [.callAnswered 0] ∧ (s.station 0).state = .setup ∧
    (s.station 0).context = some (call (.charged 3)) ∧ (s.station 0).card = some 100 ∧ j 3 = 1 ∧ j 2 = 0 := by decide +kernel

/-- A card with an unsettled order, and one with a settled order only. -/
theorem test_met_LowerBoundAndPrice :
    let s := (talk [paid] 5).setOrder 0 (some (order .sending))
    let t := (talk [paid] 5).setOrder 0 (some { order .sending with settled := true })
    s.ct.find 100 = some (card (.active 0)) ∧ s.order 0 = some (order .sending) ∧ (order .sending).settled = false ∧
    (order .sending).serial = 100 ∧ s.lowerBound 100 = 56 ∧ t.lowerBound 100 = 60 ∧ (s.station 0).card = some 100 ∧
    (s.station 1).card = none ∧ SlotTable.read (3 * 4 + (s.period .a 3).val) (s.bank .a).bands = some ⟨30, 2, 1⟩ := by
  decide +kernel

theorem test_met_LowerBoundAndPrice_orders :
    (∀ j o, ((talk [paid] 5).setOrder 0 (some (order .sending))).order j = some o → o.serial = 100 → o.settled = false →
      o = order .sending) ∧
    ∀ j o, (talk [paid] 5).order j = some o → o.serial = 100 → o.settled = true := by
  have none_of : ∀ j : StationId, (talk [paid] 5).order j = none := by decide +kernel
  refine ⟨?_, ?_⟩
  · intro j o ho _ _
    by_cases hj : j = 0
    · subst hj
      rw [State.setOrder_same] at ho
      exact (Option.some.inj ho).symm
    · rw [State.setOrder_other _ _ _ _ hj, none_of] at ho
      cases ho
  · intro j o ho
    rw [none_of] at ho
    cases ho

theorem test_met_HeadIntervalExpires : (talk [paid, priced] 0).running = true ∧ ((talk [paid, priced] 0).station 0).state = .talk ∧
    ((talk [paid, priced] 0).station 0).context.isSome = true ∧ ((talk [paid, priced] 0).station 0).headTimer = some 0 ∧
    ((talk [paid, priced] 0).station 0).intervals = [paid, priced] ∧ priced.status = .priced ∧ paid.status = .paid ∧
    ((talk [paid] 0).station 0).intervals = [paid] ∧
    (((talk [paid] 0).mapContext 0 fun x => { x with finalMark := some .exhausted }).station 0).context.map
      CallContext.finalMark = some (some .exhausted) := by decide +kernel

/-- Due with units left, due with none, and not due. -/
theorem test_met_Replenishment :
    let s := talk [paid] 5
    let j := fun n => min (s.station 0).cls ((s.withCards [{ card (.active 0) with confirmed := n }]).lowerBound 100 /
      ((s.bank .a).price 3 (s.period .a 3)).units)
    (s.station 0).state = .talk ∧ (s.station 0).context.map CallContext.kind = some (.charged 3) ∧
    (s.station 0).card = some 100 ∧ (s.station 0).intervals = [paid] ∧ s.order 0 = none ∧
    (s.station 0).context.map CallContext.finalMark = some none ∧ j 2 = 1 ∧ j 1 = 0 ∧
    ((talk [paid, paid] 5).station 0).intervals = [paid, paid] := by decide +kernel

/-- The last place of the row outbound queue, and none; tag 255 with the next free tag 2. -/
theorem test_met_OrderIssued :
    let s := { live with de := { live.de with tagCounter := 255, retired := [(0, 255), (3, 1)] } }
    { live.rlc with outbound := List.replicate 63 plainFrame }.outbound.length < 64 ∧
    64 ≤ { live.rlc with outbound := List.replicate 64 plainFrame }.outbound.length ∧ s.de.offeredTag = 2 ∧
    live.de.offeredTag = 1 := by decide +kernel

theorem test_met_OrderIssued_tags : live.TagsLegal := by
  unfold State.TagsLegal State.OrdersInCalls
  decide +kernel

theorem test_met_OutcomeNamed :
    let s := hears ((talk [paid] 5).setOrder 0 (some (order .sending))) (.burnReport 1 4 56)
    s.running = true ∧ s.rlc.inbound = [⟨0, .burnReport 1 4 56⟩] ∧ s.order 0 = some (order .sending) ∧
    (order .sending).tag = 1 ∧ (order .sending).tag ≠ 2 ∧ (order (.awaiting 3)).state ≠ .sending ∧
    min 4 (order .sending).units = (order .sending).units ∧ ¬min 3 (order .sending).units = (order .sending).units ∧
    (live.setOrder 0 (some (order (.awaiting 0)))).order 0 = some (order (.awaiting 0)) := by decide +kernel

/-- The third failure counts to 4; an earlier one does not. -/
theorem test_met_OutcomeTaken : min 4 ({ live.de with failures := live.de.failures.set 0 3 }.failures.get 0 + 1) = 4 ∧
    min 4 (live.de.failures.get 0 + 1) ≠ 4 := by decide +kernel

/-- Paid entries left and none, in TALK; and CLEARING. -/
theorem test_met_OutcomeOnTheCall : ((talk [paid, priced] 5).station 0).state = .talk ∧
    ((talk [paid, priced] 5).station 0).context.isSome = true ∧
    [paid, priced].filter (fun e => e.status == .paid) ≠ [] ∧ [priced].filter (fun e => e.status == .paid) = [] ∧
    coverShort 1 2 [priced] = [] ∧ coverShort 1 3 [priced, priced] ≠ [] ∧ ((clearing false false).station 0).state = .clearing ∧
    ((clearing false false).station 0).context.isSome = true := by decide +kernel

theorem test_met_OutcomeOnTheCall_cover : (∀ e ∈ [paid], e.status = .paid) ∧
    (∀ e ∈ [priced, priced], e.status = .priced ∧ e.units = 2) ∧ 1 ≤ 2 := by decide +kernel

theorem test_met_LinkFrameJudged : live.running = true ∧ (List.replicate 48 (0 : Byte)).length ≤ 48 := by decide +kernel

theorem test_met_LinkFrameJudged_broken :
    ¬∃ (kind station : Byte) (data : List Byte) (high low : Byte), data.length ≤ 48 ∧
      [0x24, 0x01, 0x00, 0x00] = linkFrame kind station data high low := by
  rintro ⟨k, s, l, a, b, -, h⟩
  have := congrArg List.length h
  simp [linkFrame] at this

/-- The last instant of a leap day; the day after it in a common year is refused; day type 3 is none. -/
theorem test_met_ClockSetAndUntrusted :
    let f : ClockFrame := ⟨0, 2, 29, 2, 23, 59, 59⟩
    (gets live (.clock f)).running = true ∧ (gets live (.clock f)).xlc.inbound = [.clock f] ∧
    f.dayType = code (DayType.code .holiday) ∧ (1 ≤ f.day.toNat ∧ f.day.toNat ≤ monthLength f.year.toNat f.month.toNat) ∧
    ¬(29 ≤ monthLength 1 2) ∧ { live.tb with untrust := some 0 }.untrust = some 0 := by decide +kernel

theorem test_met_ClockSetAndUntrusted_dayType : ∀ t, (3 : Byte) ≠ code (DayType.code t) := by
  intro t; cases t <;> decide

/-- The last tenth of a day and the one before it. -/
theorem test_met_TickOfElapsedTime : live.running = true ∧ live.tb.Legal ∧
    ((23 * 60 + 59) * 60 + 59) * 10 + 9 + 1 = 864000 ∧ ((23 * 60 + 59) * 60 + 59) * 10 + 8 + 1 < 864000 := by
  unfold TimeBase.Legal
  decide +kernel

theorem test_met_SilenceExpires :
    let s := { live with xlc := { live.xlc with silence := some 0 } }
    s.running = true ∧ s.xlc.link = .up ∧ s.xlc.silence = some 0 ∧ (s.station 0).state = .idle ∧
    ((setup .free).station 0).state = .setup ∧ ((setup .free).station 0).context = some (call .free) ∧
    ((clearing true false).station 0).context.map CallContext.released = some true ∧
    ((clearing false true).station 0).context.map CallContext.released = some false := by decide +kernel

/-- 0 is the longest match of 021, and nothing matches 7. -/
theorem test_met_LongestPrefixDecides : (∀ e ∈ tariff.prefixes, ¬e.2.digits <+: [7]) ∧
    (tariff.prefixes.map fun e => e.2.digits).Nodup ∧ (0, ⟨[0], .band 3⟩) ∈ tariff.prefixes ∧ [0] <+: ([0, 2, 1] : List Digit) ∧
    (∀ f ∈ tariff.prefixes, f.2.digits <+: [0, 2, 1] → f.2.digits.length ≤ 1) := by decide +kernel

/-- Trusted and not; a slot at the minute itself, none before the minute, and no slot of the day type. -/
theorem test_met_PeriodOfAPrice : live.tb.trusted = true ∧ State.reset.tb.trusted = false ∧
    ((tariff.daySlots .weekday).map CalendarSlot.minute).Nodup ∧ (⟨600, 2⟩ : CalendarSlot) ∈ tariff.daySlots .weekday ∧
    (600 : Nat) ≤ 600 ∧ (∀ e ∈ ({ tariff with calendar := [(0, ⟨600, 2⟩)] } : Bank).daySlots .weekday, 599 < e.minute) ∧
    tariff.daySlots .holiday = [] ∧ (∀ p, ((tariff.bandEntry 3 p).map BandEntry.length).getD 0 = 30) := by decide +kernel

theorem test_met_ActivationAndService :
    let standby := { tariff with state := .standby }
    (live.bank .a).state = .active ∧ (live.bank .b).state = .empty ∧ ({ tariff with state := .draining } : Bank).state = .draining ∧
    standby.state = .standby ∧ standby.prefixes ≠ [] ∧
    (∀ e ∈ standby.prefixes, e.2.action = .band 3 → ∀ p, standby.bandEntry 3 p ≠ none) ∧
    ({ standby with bands := [] } : Bank).bandEntry 3 0 = none ∧ live.mu.service = .opened ∧ live.activeBank ≠ none ∧
    State.reset.mu.service = .closed ∧ State.reset.activeBank = none ∧
    { live with mu := { live.mu with service := .closed } }.activeBank ≠ none := by decide +kernel

theorem test_met_EveryRequestAnsweredOnce : (asked live 1 [1, 0, 0]).running = true ∧
    (asked live 1 [1, 0, 0]).xlc.inbound = [.mgmtRequest 1 5 [1, 0, 0]] ∧
    (asked live 12 []).xlc.inbound = [.mgmtRequest 12 5 []] ∧ (12 : Byte) < 13 ∧
    (asked live 13 []).xlc.inbound = [.mgmtRequest 13 5 []] ∧ ([] : List Byte).length ≠ 3 ∧ ([0] : List Byte).length ≠ 0 ∧
    ([0] : List Byte).length ≠ 1 * live.mu.selector.entrySize := by decide +kernel

/-- The last page of each table, and combinations one beyond. -/
theorem test_met_PageSelected : (31 : Byte) = code (31 : Fin 32).val ∧ (7 : Byte) = code (7 : Fin 8).val ∧
    selectorOf 1 0 31 = some (.hot 31) ∧ selectorOf 1 0 32 = none ∧ selectorOf 3 2 8 = none ∧ selectorOf 7 0 0 = none ∧
    selectorOf 2 1 0 = none ∧ selectorOf 3 0 0 = none := by decide +kernel

/-- Two entries of 5 bytes are cut apart. -/
theorem test_met_PointerWalksThePage_cut : ([1, 2, 3, 4, 5] : List Byte).length = 5 ∧
    splitEntries 5 2 [1, 2, 3, 4, 5, 6, 7, 8, 9, 10] = [[1, 2, 3, 4, 5], [6, 7, 8, 9, 10]] := by decide +kernel

theorem test_met_PointerWalksThePage :
    let s := { live with mu := { live.mu with selector := .batch, pointer := 63 } }
    (List.replicate 24 (0 : Byte)).length = (4 : Byte).toNat * s.mu.selector.entrySize ∧ 4 < (5 : Byte).toNat ∧
    (s.writeEntry [0, 0, 0, 0, 0, 0]).1 = .done ∧ (s.writeEntry [1, 0, 9, 0, 1, 0]).1 = .duplicate ∧
    s.advancePointer.mu.pointer = 0 := by decide +kernel

theorem test_met_EntryJudgedAndStored : live.mu.selector = .hot 0 ∧
    { live.mu with selector := Selector.calendar .b }.selector = .calendar .b ∧ (live.bank .a).state = .active ∧
    (live.bank .b).state = .empty ∧ ({ tariff with state := .standby } : Bank).state = .standby ∧
    ({ tariff with state := .draining } : Bank).state = .draining := by decide +kernel

/-- Serial 100 ACTIVE at station 1 alone is in the range from 100 to 100 and not in the range above it; the write bars it. -/
theorem test_met_EntryJudgedAndStored_range : card (.active 0) ∈ ready.ct.cards ∧ (card (.active 0)).state = .active 0 ∧
    (100 : Serial) ≤ (card (.active 0)).serial ∧ (card (.active 0)).serial ≤ 100 ∧
    (∀ q ∈ ready.ct.cards, q.state = .active 0 → q = card (.active 0)) ∧
    (∀ r ∈ ready.ct.cards, r.state = .active 0 → ¬((101 : Serial) ≤ r.serial ∧ r.serial ≤ 200)) ∧
    (ready.barRange ⟨100, 100, 7⟩).rlc.outbound = [⟨.station 0, .cardRefused (.barred 7), .ct⟩] ∧
    (ready.barRange ⟨101, 200, 7⟩).rlc.outbound = [] := by decide +kernel

/-- Byte strings of the five sizes, with the use bytes 00h, 01h and 02h. -/
theorem test_met_EntriesReturnedAsWritten_reads : ([1, 0, 0, 0, 1, 0, 0, 1, 0, 7] : List Byte).length = 10 ∧
    ([1, 0, 9, 0x27, 0x0F, 1] : List Byte).length = 6 ∧ ([1, 3, 0x02, 0x1F, 0xFF, 0xFF, 0xFF, 1, 3] : List Byte).length = 9 ∧
    ([0, 0x17, 0x70, 50, 0] : List Byte).length = 5 ∧ ([2, 0x05, 0x9F, 3] : List Byte).length = 4 ∧
    readBand [0, 0x17, 0x70, 50, 0] = .empty := by decide +kernel

theorem test_met_EntriesReturnedAsWritten : (255 : Byte) ≠ 0 ∧ BatchEntry.InRange ⟨65535, 9999, .withdrawn⟩ ∧
    PrefixEntry.InRange ⟨[0, 1, 2, 3, 4, 5, 6, 7, 8, 9], .band 15⟩ ∧ BandEntry.InRange ⟨6000, 50, 50⟩ ∧
    BandEntry.InRange ⟨10, 1, 0⟩ ∧ CalendarSlot.InRange ⟨1439, 3⟩ := by
  unfold BatchEntry.InRange PrefixEntry.InRange BandEntry.InRange CalendarSlot.InRange
  decide +kernel

/-- The largest numbers of the frames, each reason and status of the lists, and tag 255. -/
theorem test_met_FrameLayouts : 65535 < 65536 ∧ 255 < 256 ∧ (CardRefusal.unitsRose, (0x0A : Byte)) ∈ cardRefusalCodes ∧
    (CallRefusal.linkCongested, (0x0A : Byte)) ∈ callRefusalCodes ∧ (EndCause.restart, (0x0E : Byte)) ∈ endCauseCodes ∧
    (Status.empty, (0x09 : Byte)) ∈ statusCodes ∧ RowInMsg.Fits (.cardIn 0xFFFFFFFF 65535 65535) ∧
    RowInMsg.Fits (.number (List.replicate 16 9)) := by
  unfold RowInMsg.Fits
  decide +kernel

/-- The record of a cleared call, and the largest numbers of a record, fit their fields. -/
theorem test_met_StateReadBack_layouts :
    (buildRecord 4294967295 47 { call (.charged 3) with
      dialled := List.replicate 16 9, card := some (100, 65535), talkDuration := some 4294967295, intervalsBegun := 65535,
      unitsBurned := 65535, unresolved := some 65535 }).Fits ∧
    (live.stationView 0).cls < 256 ∧ (live.stationView 0).failures < 256 ∧ (live.stationView 0).order = none ∧
    (order .sending).tag < 256 ∧ (order .sending).units < 65536 ∧ live.statusView.pinsA < 256 ∧ live.statusView.pinsB < 256 ∧
    live.statusView.stored < 65536 ∧ live.statusView.reservations < 256 ∧ live.statusView.autobarCount < 256 := by
  refine ⟨⟨by decide, by decide, by decide, by decide, by decide, ?_⟩, by decide +kernel⟩
  intro x b h
  simp only [buildRecord, Option.some.injEq, Prod.mk.injEq] at h
  omega

/-- No record at position 0, and one. -/
theorem test_met_StateReadBack : (48 : Byte) < 49 ∧ 3 < (4 : Byte).toNat ∧ (3 : Byte).toNat ≤ 3 ∧
    live.rq.records.length ≤ (0 : Byte).toNat ∧
    (after .callClear (gets (setup .free) (.callClear 0 16))).rq.records[(0 : Byte).toNat]?.isSome = true := by decide +kernel

theorem test_met_RecordsReleasedAndSerialUnbarred : (0#8 ++ 0#8 ++ 2#8 ++ 0xBC#8) ∈ live.ct.autobar ∧
    (0#8 ++ 0#8 ++ 0#8 ++ 1#8) ∉ live.ct.autobar := by decide +kernel

/-- The stations of a part with a call in TALK hold what R4 says. -/
theorem test_met_LineRestart_stations : (talk [paid] 30).StationsHold := by
  have key : ∀ i : StationId, i ≠ 0 → (talk [paid] 30).station i = StationRecord.reset ∧ (talk [paid] 30).order i = none := by
    decide +kernel
  intro i
  by_cases h : i = 0
  · subst h
    refine ⟨by decide +kernel, ?_⟩
    show StationRecord.Connected _ _ _ ∧ _
    refine ⟨?_, by decide +kernel⟩
    show (1 ≤ _ ∧ _ ≤ 4 ∧ _ = true ∧ _ = true)
    decide +kernel
  · rw [(key i h).1, (key i h).2]
    exact ⟨by decide, rfl, ⟨rfl, rfl, ⟨rfl, rfl, rfl⟩, rfl, rfl⟩, rfl⟩

/-- Such a part runs, with its calls counted, its banks legal and its store current; it has one call, which is stored. -/
theorem test_met_LineRestart : (talk [paid] 30).running = true ∧ (talk [paid] 30).CallsCounted ∧ (talk [paid] 30).BanksLegal ∧
    (talk [paid] 30).StoreCurrent ∧ ((restartLine [] (talk [paid] 30)).state.rq.records.map CallRecord.number) = [1] := by
  refine ⟨by decide +kernel, ⟨test_met_LineRestart_stations, ?_⟩, ?_, ?_, by decide +kernel⟩
  · unfold State.PinsCounted State.PlacesCounted
    decide +kernel
  · unfold State.BanksLegal TariffStore.PairLegal
    refine ⟨by decide +kernel, ?_, ?_, by decide +kernel⟩
    · show Bank.passes _ = true
      decide +kernel
    · exact rfl
  · intro _
    decide +kernel

/-- Every invariant holds somewhere, and a step answers a next state from there: right after reset. -/
theorem test_met_invariants : step State.reset = .next State.reset ∧ State.reset.running = true ∧
    step { State.reset with pending := [.timeOfDayTick] } = .next (after .timeOfDayTick State.reset) := ⟨rfl, rfl, rfl⟩

theorem test_met_ConfirmedUnitsNeverIncrease : (ready.ct.cards.map CardRecord.serial).Nodup ∧
    (after .timeOfDayTick ready).ct.cards = ready.ct.cards ∧ ready.ct.cards ≠ [] := by decide +kernel

theorem test_met_RecordsAndWithdrawalsStay : ofPower .setStation = false ∧ Instr.setStation ≠ .releaseRecords ∧
    ofPower .restartLine = false ∧ Instr.restartLine ≠ .setStation ∧
    ((live.mapStation 0 fun r => { r with state := .outOfService }).station 0).state = .outOfService := by decide +kernel

theorem test_met_BusyBankEntriesNeverChange : ofPower .writeEntries = false ∧ (live.bank .a).state = .active ∧
    ({ tariff with state := .draining } : Bank).state = .draining := by decide +kernel

end Sys2Proof.Machine.Tests
end

/-! # Metering of intervals (02): the head interval timer and replenishment -/

namespace Sys2Proof.Machine

/-! ## One station record: its context, timer and list -/

/-- Writing the context of a station that has one, as a write of the whole record. -/
theorem State.mapContext_of_context (s : State) (i : StationId) (x : CallContext) (f : CallContext → CallContext)
    (hctx : (s.station i).context = some x) :
    s.mapContext i f = s.setStation i { s.station i with context := some (f x) } := by
  simp only [State.mapContext, State.mapStation, hctx, Option.map_some]

/-- R31, R39: what the record of a station with a call holds when a PAID entry has become its head. -/
theorem StationRecord.beginHead_of_context (r : StationRecord) (x : CallContext) (e : Interval) (rest : List Interval)
    (hctx : r.context = some x) :
    r.beginHead e rest = { r with
      intervals := e :: rest, headTimer := some e.length,
      context := some { x with intervalsBegun := x.intervalsBegun + 1 } } := by
  simp only [StationRecord.beginHead, hctx, Option.map_some]

/-- R42, R43: the final mark in the context, and UNITS_LOW behind it. -/
theorem State.markFinal_of_context (s : State) (i : StationId) (x : CallContext) (c : FinalCause)
    (hctx : (s.station i).context = some x) :
    s.markFinal i c =
      (s.setStation i { s.station i with context := some { x with finalMark := some c } }).tellStation i (.unitsLow c) := by
  rw [State.markFinal, s.mapContext_of_context i x _ hctx]

/-! ## Head expiry -/

/-- In TALK with no time left (log 3), the command makes the head's expiry happen, and ATTN follows. -/
theorem exec_headIntervalExpiry_of_due (s : State) (i : StationId) (x : CallContext) (hrun : s.running = true)
    (htalk : (s.station i).state = .talk) (hctx : (s.station i).context = some x)
    (htimer : (s.station i).headTimer = some 0) :
    exec (.headIntervalExpiry i) s = .next (s.headExpired i x).refreshAttn := by
  have hdue : timerDue (s.station i).headTimer = true := by rw [htimer]; rfl
  have harm : exec (.headIntervalExpiry i) s = whenRunning (State.headExpires i) s := rfl
  rw [harm, whenRunning_of_running _ s hrun, State.headExpires, htalk, hctx, hdue]

section
variable {s : State} {i : StationId} {head : Interval}

/-- R39: behind the spent head stands a PAID entry. -/
theorem State.headExpired_of_paid {e : Interval} {rest : List Interval} (x : CallContext)
    (hlist : (s.station i).intervals = head :: e :: rest) (hpaid : e.status = .paid) :
    s.headExpired i x = (s.mapStation i (StationRecord.beginHead e rest)).considerReplenish i := by
  simp only [State.headExpired, hlist, List.tail_cons, hpaid]

/-- R40: behind the spent head stands a PRICED entry. -/
theorem State.headExpired_of_priced {e : Interval} {rest : List Interval} (x : CallContext)
    (hlist : (s.station i).intervals = head :: e :: rest) (hpriced : e.status = .priced) :
    s.headExpired i x = s.startClear i .burnLate := by
  simp only [State.headExpired, hlist, List.tail_cons, hpriced]

/-- R41: the spent head was the last entry of a final call. -/
theorem State.headExpired_of_last {x : CallContext} {c : FinalCause} (hlist : (s.station i).intervals = [head])
    (hfinal : x.finalMark = some c) : s.headExpired i x = s.startClear i c.toEnd := by
  simp only [State.headExpired, hlist, List.tail_cons, CallContext.finalEnd, hfinal, Option.getD_some]

end

/-- Settles O27: the expiry is split by what stands behind the spent head. -/
theorem headIntervalExpires : Obligations.HeadIntervalExpires := by
  intro s i x head rest hrun htalk hctx htimer hlist
  rw [exec_headIntervalExpiry_of_due s i x hrun htalk hctx htimer]
  refine ⟨?paid, ?priced, ?last⟩
  case paid =>
    rintro e l rfl hpaid
    rw [State.headExpired_of_paid x hlist hpaid, State.mapStation, StationRecord.beginHead_of_context _ x e l hctx]
  case priced =>
    rintro e l rfl hpriced
    rw [State.headExpired_of_priced x hlist hpriced]
  case last =>
    rintro c rfl hfinal
    rw [State.headExpired_of_last hlist hfinal]

/-! ## Replenishment -/

/-- The four conditions of R36; TALK and a CHARGED call are asked by `considerReplenish`. -/
theorem State.replenishDue_iff (s : State) (i : StationId) (x : CallContext) :
    s.replenishDue i x = true ↔
      (∃ e, (s.station i).intervals = [e] ∧ e.status = .paid) ∧ s.order i = none ∧ x.finalMark = none := by
  match hlist : (s.station i).intervals with
  | [] => simp [State.replenishDue, hlist]
  | [e] => simp [State.replenishDue, hlist, and_assoc]
  | _ :: _ :: _ => simp [State.replenishDue, hlist]

/-- R36: in TALK with a CHARGED call, replenishment is made when it is due, and nothing happens otherwise. -/
theorem State.considerReplenish_of_charged (s : State) (i : StationId) (x : CallContext) (b : Band) (card : Serial)
    (htalk : (s.station i).state = .talk) (hctx : (s.station i).context = some x) (hkind : x.kind = .charged b)
    (hcard : (s.station i).card = some card) :
    s.considerReplenish i = if s.replenishDue i x then s.replenish i x.bank b card else s := by
  simp only [State.considerReplenish, htalk, hctx, hcard, hkind]

section
variable (s : State) (i : StationId) (x : BankId) (b : Band) (card : Serial)

/-- R38: the card pays no interval at the price now. -/
theorem State.replenish_of_payable_zero
    (hj : payable (s.station i).cls (s.lowerBound card) (s.priceNow x b).units = 0) :
    s.replenish i x b card = s.markFinal i .exhausted := by
  simp only [State.replenish, hj, if_true]

/-- R37: the card pays `j` intervals at the price now, which are appended and ordered. -/
theorem State.replenish_of_payable_pos (j : Nat)
    (hj : payable (s.station i).cls (s.lowerBound card) (s.priceNow x b).units = j) (hpos : 1 ≤ j) :
    s.replenish i x b card =
      (s.setStation i { s.station i with
        intervals := (s.station i).intervals ++ pricedBlock j (s.priceNow x b) }).issueOrder i card
        (j * (s.priceNow x b).units) .replenish := by
  have hne : j ≠ 0 := Nat.one_le_iff_ne_zero.1 hpos
  simp only [State.replenish, hj, hne, if_false, State.mapStation]

end

/-- Settles O28: not due nothing happens; due, the number of intervals the card pays decides. -/
theorem replenishment : Obligations.Replenishment := by
  intro s i x b card htalk hctx hkind hcard due e j
  have hconsider := s.considerReplenish_of_charged i x b card htalk hctx hkind hcard
  have hdue : s.replenishDue i x = true ↔ due := s.replenishDue_iff i x
  refine ⟨?notDue, ?exhausted, ?block⟩
  case notDue =>
    intro hnot
    rw [hconsider, if_neg (hdue.not.2 hnot)]
  case exhausted =>
    intro h hj
    rw [hconsider, if_pos (hdue.2 h), s.replenish_of_payable_zero i x.bank b card hj,
      s.markFinal_of_context i x .exhausted hctx]
  case block =>
    intro h hj
    rw [hconsider, if_pos (hdue.2 h), s.replenish_of_payable_pos i x.bank b card j rfl hj]
    rfl

end Sys2Proof.Machine

/-! # The card table (03): what an entry's bytes spell -/

namespace Sys2Proof.Machine

/-! ## Numbers of one, two and four bytes -/

@[simp] theorem code_toNat (b : Byte) : code b.toNat = b := by simp [code]

theorem toNat_code {n : Nat} (h : n < 256) : (code n).toNat = n := by simp [code, Nat.mod_eq_of_lt h]

theorem readNat_two (a b : Byte) : readNat [a, b] = a.toNat * 256 + b.toNat := by simp [readNat]

theorem readNat_two_lt (a b : Byte) : readNat [a, b] < 65536 := by
  rw [readNat_two]
  have ha := a.isLt
  have hb := b.isLt
  omega

theorem twoBytes_readNat (a b : Byte) : twoBytes (readNat [a, b]) = [a, b] := by
  have hb := b.isLt
  rw [readNat_two, twoBytes]
  congr 1
  · rw [show (a.toNat * 256 + b.toNat) / 256 = a.toNat by omega, code_toNat]
  · rw [List.cons.injEq]
    refine ⟨BitVec.eq_of_toNat_eq ?_, rfl⟩
    simp only [code, BitVec.toNat_ofNat]
    omega

theorem readNat_twoBytes {n : Nat} (h : n < 65536) : readNat (twoBytes n) = n := by
  rw [twoBytes, readNat_two]
  simp only [code, BitVec.toNat_ofNat]
  omega

theorem toNat_append_byte {n : Nat} (x : BitVec n) (b : Byte) : (x ++ b).toNat = x.toNat * 256 + b.toNat := by
  rw [BitVec.toNat_append, ← Nat.shiftLeft_add_eq_or_of_lt b.isLt, Nat.shiftLeft_eq]

/-- Four bytes spell one serial. -/
theorem fourBytes_eq_iff (x : Serial) (a b c d : Byte) : [a, b, c, d] = fourBytes x.toNat ↔ a ++ b ++ c ++ d = x := by
  have hspell : fourBytes (a ++ b ++ c ++ d : Serial).toNat = [a, b, c, d] := by
    have hb := b.isLt
    have hc := c.isLt
    have hd := d.isLt
    simp only [fourBytes, code, toNat_append_byte, List.cons.injEq, and_true, ← BitVec.toNat_inj, BitVec.toNat_ofNat]
    omega
  exact ⟨fun he => fourBytes_inj _ _ (by rw [hspell, he]), fun he => by rw [← he, hspell]⟩

/-! ## Packed digits -/

theorem nibbles_inj {a b : Byte} (h : nibbles a = nibbles b) : a = b := by
  simp only [nibbles, List.cons.injEq, and_true] at h
  exact BitVec.eq_of_toNat_eq (by omega)

/-- The halves of the bytes give the bytes back. -/
theorem flatMap_nibbles_inj : ∀ {p q : List Byte}, p.flatMap nibbles = q.flatMap nibbles → p = q
  | [], [], _ => rfl
  | [], _ :: _, h => by simp [nibbles] at h
  | _ :: _, [], h => by simp [nibbles] at h
  | a :: p, b :: q, h => by
    rw [List.flatMap_cons, List.flatMap_cons] at h
    obtain ⟨hab, hpq⟩ := List.append_inj h rfl
    rw [nibbles_inj hab, flatMap_nibbles_inj hpq]

theorem flatMap_nibbles_length (p : List Byte) : (p.flatMap nibbles).length = 2 * p.length := by
  induction p with
  | nil => rfl
  | cons a p ih => simp [nibbles, ih]; omega

theorem nibbles_code {h l : Nat} (hh : h < 16) (hl : l < 16) : nibbles (code (h * 16 + l)) = [h, l] := by
  rw [nibbles, toNat_code (by omega)]
  congr 1
  · omega
  · congr 1; omega

theorem flatMap_nibbles_replicate (k : Nat) :
    (List.replicate k (0xFF : Byte)).flatMap nibbles = List.replicate (2 * k) 15 := by
  induction k with
  | zero => rfl
  | succ k ih =>
    rw [List.replicate_succ, List.flatMap_cons, ih, Nat.mul_succ, List.replicate_succ, List.replicate_succ]
    rfl

/-- Packed digits are the digits, and a filler behind an odd count. -/
theorem flatMap_nibbles_packDigits (ds : List Digit) :
    (packDigits ds).flatMap nibbles = ds.map Fin.val ++ List.replicate (2 * ((ds.length + 1) / 2) - ds.length) 15 := by
  fun_induction packDigits ds with
  | case1 => rfl
  | case2 d => simp [nibbles_code (show d.val < 16 by omega) (show 15 < 16 by decide)]
  | case3 d e l ih =>
    have hcount : 2 * ((l.length + 1 + 1 + 1) / 2) - (l.length + 1 + 1) = 2 * ((l.length + 1) / 2) - l.length := by omega
    rw [List.flatMap_cons, ih, nibbles_code (by omega) (by omega)]
    simp [hcount]

/-- A digit field holds its digits, and Fh in every position behind them (R190). -/
theorem flatMap_nibbles_field (ds : List Digit) (k : Nat) :
    (packDigits ds ++ List.replicate k (0xFF : Byte)).flatMap nibbles
      = ds.map Fin.val ++ List.replicate (2 * ((packDigits ds).length + k) - ds.length) 15 := by
  have hcount : 2 * ((ds.length + 1) / 2) - ds.length + 2 * k = 2 * ((ds.length + 1) / 2 + k) - ds.length := by omega
  rw [List.flatMap_append, flatMap_nibbles_packDigits, flatMap_nibbles_replicate, List.append_assoc,
    List.replicate_append_replicate, packDigits_length, hcount]

/-- Digit positions 0 to 9 are the digits they name. -/
theorem toDigits_eq_some_iff : ∀ {ns : List Nat} {ds : List Digit}, toDigits ns = some ds ↔ ns = ds.map Fin.val
  | [], [] => by simp [toDigits]
  | [], _ :: _ => by simp [toDigits]
  | n :: ns, [] => by
    unfold toDigits
    split
    next => split <;> simp
    next => simp
  | n :: ns, d :: ds => by
    rw [List.map_cons, List.cons.injEq, ← toDigits_eq_some_iff (ns := ns) (ds := ds)]
    rw [toDigits]
    split
    next hn =>
      split
      next es hes => simp [hes, Fin.ext_iff]
      next hes => simp [hes]
    next hn =>
      have hne : n ≠ d.val := fun he => hn (he ▸ d.isLt)
      simp [hne]

/-- R190: the digits read from a field are those whose layout fills it. -/
theorem unpackDigits_eq_some_iff {count : Nat} {packed : List Byte} (hroom : count ≤ 2 * packed.length) (ds : List Digit) :
    unpackDigits count packed = some ds ↔
      ds.length = count ∧ packed = packDigits ds ++ List.replicate (packed.length - (packDigits ds).length) 0xFF := by
  have hlen := flatMap_nibbles_length packed
  have hread : unpackDigits count packed = some ds ↔
      ds.length = count ∧ packed.flatMap nibbles = ds.map Fin.val ++ List.replicate (2 * packed.length - ds.length) 15 := by
    unfold unpackDigits
    generalize packed.flatMap nibbles = ns at hlen
    have hfill : (ns.drop count).all (· == 15) = true ↔ ns.drop count = List.replicate (2 * packed.length - count) 15 := by
      rw [List.eq_replicate_iff, List.all_eq_true, List.length_drop, hlen]
      simp
    simp only [Bool.and_eq_true, decide_eq_true_eq, hlen, hroom, hfill, true_and, Option.ite_none_right_eq_some,
      toDigits_eq_some_iff]
    constructor
    · rintro ⟨hdrop, htake⟩
      have hcount : ds.length = count := by
        rw [← List.length_map (f := Fin.val), ← htake, List.length_take, hlen]; omega
      exact ⟨hcount, by rw [hcount, ← htake, ← hdrop, List.take_append_drop]⟩
    · rintro ⟨rfl, hns⟩
      rw [hns]
      exact ⟨List.drop_left' (by simp), List.take_left' (by simp)⟩
  rw [hread]
  refine and_congr_right fun hcount => ⟨fun hns => ?_, fun hp => ?_⟩
  · have hle : (packDigits ds).length ≤ packed.length := by rw [packDigits_length]; omega
    refine flatMap_nibbles_inj (hns.trans ?_)
    rw [flatMap_nibbles_field, Nat.add_sub_cancel' hle]
  · have hle : (packDigits ds).length ≤ packed.length := by rw [hp]; simp
    rw [hp, flatMap_nibbles_field, ← hp, Nat.add_sub_cancel' hle]

/-! ## The entries of 11.3 -/

/-- The layouts of 11.3 behind the use byte. -/
def HotRange.layout (h : HotRange) : List Byte := fourBytes h.first.toNat ++ fourBytes h.last.toNat ++ [h.code]

def BatchEntry.layout (e : BatchEntry) : List Byte :=
  twoBytes e.batch ++ twoBytes e.face ++ [match e.standing with | .current => (0x00 : Byte) | .withdrawn => 0x01]

def PrefixEntry.layout (e : PrefixEntry) : List Byte :=
  [code e.digits.length] ++ packDigits e.digits ++ List.replicate (5 - (packDigits e.digits).length) 0xFF ++ e.action.bytes

def BandEntry.layout (e : BandEntry) : List Byte := twoBytes e.length ++ [code e.units, code e.setup]

def CalendarSlot.layout (c : CalendarSlot) : List Byte := twoBytes c.minute ++ [code c.period.val]

/-- An entry reads as content when its use byte is 01h and what follows reads. -/
theorem readUse_eq_content_iff {α : Type} (bytes : List Byte) (body : List Byte → Option α) (e : α) :
    readUse bytes body = .content e ↔ ∃ rest, bytes = 0x01 :: rest ∧ body rest = some e := by
  cases bytes with
  | nil => simp [readUse]
  | cons use rest =>
    unfold readUse
    dsimp only
    split
    next h => subst h; simp
    next =>
      split
      next h => subst h; split <;> simp_all
      next h => simpa using fun hone => (h hone).elim

/-- A reader behind the use byte reads exactly the layout when its content does. -/
theorem readsExactly_of_content {α : Type} {size : Nat} {body : List Byte → Option α} {ok : α → Prop}
    {layout : α → List Byte} (hs : 0 < size)
    (h : ∀ bytes e, readUse bytes body = .content e ↔ ok e ∧ bytes = 0x01 :: layout e) :
    ReadsExactly size (fun bytes => readUse bytes body) ok layout := by
  refine readsExactly_of_body hs fun rest e _ => ?_
  have hone := h (0x01 :: rest) e
  rw [readUse_eq_content_iff] at hone
  simpa using hone

/-- R62, 11.3. -/
theorem readHot_eq_content_iff (bytes : List Byte) (h : HotRange) :
    readHot bytes = .content h ↔ h.code ≠ 0 ∧ bytes = 0x01 :: h.layout := by
  have hlayout : ∀ a b c d e f g i k : Byte, [a, b, c, d, e, f, g, i, k] = h.layout ↔
      a ++ b ++ c ++ d = h.first ∧ e ++ f ++ g ++ i = h.last ∧ k = h.code := by
    intro a b c d e f g i k
    rw [← fourBytes_eq_iff, ← fourBytes_eq_iff]
    simp [HotRange.layout, fourBytes, and_assoc]
  rw [readHot, readUse_eq_content_iff]
  constructor
  · rintro ⟨rest, rfl, hbody⟩
    split at hbody
    next a b c d e f g i k =>
      split at hbody
      next => cases hbody
      next hk =>
        cases hbody
        exact ⟨hk, by rw [List.cons.injEq, hlayout]; simp⟩
    next => cases hbody
  · rintro ⟨hk, rfl⟩
    refine ⟨_, rfl, ?_⟩
    obtain ⟨a, b, c, d, e, f, g, i, k, hbytes⟩ : ∃ a b c d e f g i k : Byte, h.layout = [a, b, c, d, e, f, g, i, k] :=
      ⟨_, _, _, _, _, _, _, _, _, rfl⟩
    obtain ⟨hfirst, hlast, hcode⟩ := (hlayout a b c d e f g i k).1 hbytes.symm
    rw [hbytes]
    simpa [hcode, hfirst, hlast] using hk

/-- R61, 11.3. -/
theorem readBatch_eq_content_iff (bytes : List Byte) (e : BatchEntry) :
    readBatch bytes = .content e ↔ e.InRange ∧ bytes = 0x01 :: e.layout := by
  rw [readBatch, readUse_eq_content_iff]
  constructor
  · rintro ⟨rest, rfl, hbody⟩
    split at hbody
    next a b c d st =>
      have hbatch := readNat_two_lt a b
      dsimp only at hbody
      split at hbody
      next hrange =>
        obtain ⟨hb, hf, hface⟩ := hrange
        split at hbody
        next hst =>
          cases hbody
          have hst0 : st = 0 := BitVec.eq_of_toNat_eq hst
          exact ⟨⟨hb, Nat.le_of_lt_succ hbatch, hf, hface⟩, by simp [BatchEntry.layout, twoBytes_readNat, hst0]⟩
        next hst =>
          cases hbody
          have hst1 : st = 1 := BitVec.eq_of_toNat_eq hst
          exact ⟨⟨hb, Nat.le_of_lt_succ hbatch, hf, hface⟩, by simp [BatchEntry.layout, twoBytes_readNat, hst1]⟩
        next => cases hbody
      next => cases hbody
    next => cases hbody
  · rintro ⟨⟨hb, hbmax, hf, hfmax⟩, rfl⟩
    refine ⟨_, rfl, ?_⟩
    obtain ⟨batch, face, standing⟩ := e
    have hbatch : readNat (twoBytes batch) = batch := readNat_twoBytes (Nat.lt_succ_of_le hbmax)
    have hface : readNat (twoBytes face) = face := readNat_twoBytes (hfmax.trans_lt (by decide))
    rw [twoBytes] at hbatch hface
    cases standing <;> simp [BatchEntry.layout, twoBytes, hbatch, hface, hb, hf, hfmax]

/-- R106: action and band bytes. -/
theorem readAction_eq_some_iff (action band : Byte) (a : Action) :
    readAction action band = some a ↔ [action, band] = a.bytes := by
  constructor
  · intro hread
    unfold readAction at hread
    split at hread
    next h1 =>
      obtain rfl : action = 1 := BitVec.eq_of_toNat_eq h1
      split at hread
      next => cases hread; simp [Action.bytes]
      next => cases hread
    next h2 =>
      obtain rfl : action = 2 := BitVec.eq_of_toNat_eq h2
      split at hread
      next hband => cases hread; rw [hband, Action.bytes]
      next => cases hread
    next h3 =>
      obtain rfl : action = 3 := BitVec.eq_of_toNat_eq h3
      split at hread
      next hband => cases hread; rw [hband, Action.bytes]
      next => cases hread
    next => cases hread
  · intro hbytes
    cases a with
    | band b =>
      obtain ⟨rfl, rfl⟩ : action = 1 ∧ band = code b.val := by simpa [Action.bytes] using hbytes
      have hb := toNat_code (n := b.val) (by omega)
      simp [readAction, hb]
    | free =>
      obtain ⟨rfl, rfl⟩ : action = 2 ∧ band = 0 := by simpa [Action.bytes] using hbytes
      rfl
    | barred =>
      obtain ⟨rfl, rfl⟩ : action = 3 ∧ band = 0 := by simpa [Action.bytes] using hbytes
      rfl

theorem Action.bytes_eq (a : Action) : ∃ action band, a.bytes = [action, band] := by
  cases a <;> exact ⟨_, _, rfl⟩

/-- R106, 11.3. -/
theorem readPrefix_eq_content_iff (bytes : List Byte) (e : PrefixEntry) :
    readPrefix bytes = .content e ↔ e.InRange ∧ bytes = 0x01 :: e.layout := by
  rw [readPrefix, readUse_eq_content_iff]
  constructor
  · rintro ⟨rest, rfl, hbody⟩
    split at hbody
    next count p0 p1 p2 p3 p4 action band =>
      split at hbody
      next hcount =>
        split at hbody
        next ds a hds ha =>
          cases hbody
          obtain ⟨hlen, hpacked⟩ := (unpackDigits_eq_some_iff (by simp; omega) ds).1 hds
          have haction := (readAction_eq_some_iff action band a).1 ha
          refine ⟨⟨hlen ▸ hcount.1, hlen ▸ hcount.2⟩, ?_⟩
          simp only [PrefixEntry.layout, hlen, code_toNat, ← haction]
          simp only [List.length_cons, List.length_nil] at hpacked
          rw [List.append_assoc [count], ← hpacked]
          rfl
        next => cases hbody
      next => cases hbody
    next => cases hbody
  · rintro ⟨⟨hmin, hmax⟩, rfl⟩
    refine ⟨_, rfl, ?_⟩
    obtain ⟨ds, a⟩ := e
    dsimp only at hmin hmax
    obtain ⟨action, band, ha⟩ := a.bytes_eq
    have haction := (readAction_eq_some_iff action band a).2 ha.symm
    have hcount := toNat_code (n := ds.length) (by omega)
    have hfive : (packDigits ds ++ List.replicate (5 - (packDigits ds).length) (0xFF : Byte)).length = 5 := by
      rw [List.length_append, List.length_replicate, packDigits_length]; omega
    have hds := (unpackDigits_eq_some_iff (count := ds.length)
      (packed := packDigits ds ++ List.replicate (5 - (packDigits ds).length) 0xFF) (by rw [hfive]; omega) ds).2
      ⟨rfl, by rw [hfive]⟩
    simp only [PrefixEntry.layout, ha]
    rw [List.append_assoc [code ds.length]]
    generalize packDigits ds ++ List.replicate (5 - (packDigits ds).length) (0xFF : Byte) = packed at hfive hds
    obtain ⟨p0, p1, p2, p3, p4, rfl⟩ : ∃ p0 p1 p2 p3 p4, packed = [p0, p1, p2, p3, p4] := by
      match packed, hfive with
      | [p0, p1, p2, p3, p4], _ => exact ⟨p0, p1, p2, p3, p4, rfl⟩
    simp [hcount, hmin, hmax, hds, haction]

/-- R109, 11.3. -/
theorem readBand_eq_content_iff (bytes : List Byte) (e : BandEntry) :
    readBand bytes = .content e ↔ e.InRange ∧ bytes = 0x01 :: e.layout := by
  rw [readBand, readUse_eq_content_iff]
  constructor
  · rintro ⟨rest, rfl, hbody⟩
    split at hbody
    next l0 l1 u setup =>
      dsimp only at hbody
      split at hbody
      next hrange =>
        cases hbody
        exact ⟨hrange, by simp [BandEntry.layout, twoBytes_readNat]⟩
      next => cases hbody
    next => cases hbody
  · rintro ⟨⟨hl, hlmax, hu, humax, hsmax⟩, rfl⟩
    refine ⟨_, rfl, ?_⟩
    obtain ⟨length, units, setup⟩ := e
    dsimp only at hl hlmax hu humax hsmax
    have hlength : readNat (twoBytes length) = length := readNat_twoBytes (by omega)
    have hunits := toNat_code (n := units) (by omega)
    have hsetup := toNat_code (n := setup) (by omega)
    rw [twoBytes] at hlength
    simp [BandEntry.layout, twoBytes, hlength, hunits, hsetup, hl, hlmax, hu, humax, hsmax]

/-- R111, 11.3. -/
theorem readCalendar_eq_content_iff (bytes : List Byte) (c : CalendarSlot) :
    readCalendar bytes = .content c ↔ c.InRange ∧ bytes = 0x01 :: c.layout := by
  rw [readCalendar, readUse_eq_content_iff]
  constructor
  · rintro ⟨rest, rfl, hbody⟩
    split at hbody
    next m0 m1 p =>
      split at hbody
      next hrange =>
        cases hbody
        exact ⟨hrange.1, by simp [CalendarSlot.layout, twoBytes_readNat]⟩
      next => cases hbody
    next => cases hbody
  · rintro ⟨hminute, rfl⟩
    refine ⟨_, rfl, ?_⟩
    obtain ⟨minute, period⟩ := c
    have hm : readNat (twoBytes minute) = minute := readNat_twoBytes (hminute.trans_lt (by decide))
    have hp := toNat_code (n := period.val) (by omega)
    have hmax : minute ≤ 1439 := hminute
    rw [twoBytes] at hm
    simp [CalendarSlot.layout, twoBytes, hm, hp, hmax]

/-- A BATCH, PREFIX, BAND or CALENDAR entry in range is returned in the layout in which it is written (R182). -/
theorem pageEntry_batch_bytes {e : BatchEntry} (h : e.InRange) : (PageEntry.batch (some e)).bytes = 0x01 :: e.layout := by
  obtain ⟨_, hbatch, _, hface⟩ := h
  simp only [PageEntry.bytes, entryField, wireNat_two _ (Nat.lt_succ_of_le hbatch),
    wireNat_two _ (hface.trans_lt (show 9999 < 65536 by decide))]
  rfl

theorem pageEntry_prefixes_bytes (e : PrefixEntry) : (PageEntry.prefixes (some e)).bytes = 0x01 :: e.layout := by
  simp [PageEntry.bytes, entryField, digitField, PrefixEntry.layout]

theorem pageEntry_bands_bytes {e : BandEntry} (h : e.InRange) : (PageEntry.bands (some e)).bytes = 0x01 :: e.layout := by
  obtain ⟨_, hlength, _, hunits, hsetup⟩ := h
  simp only [PageEntry.bytes, entryField, wireNat_two _ (hlength.trans_lt (show 6000 < 65536 by decide)),
    wireNat_one _ (hunits.trans_lt (show 50 < 256 by decide)), wireNat_one _ (hsetup.trans_lt (show 50 < 256 by decide))]
  simp [BandEntry.layout]

theorem pageEntry_calendar_bytes {c : CalendarSlot} (h : c.InRange) :
    (PageEntry.calendar (some c)).bytes = 0x01 :: c.layout := by
  simp only [PageEntry.bytes, entryField, wireNat_two _ (Nat.lt_of_le_of_lt h (show 1439 < 65536 by decide))]
  rfl

/-- Settles O44: each reader by its own layout, and what READ_ENTRIES returns by the widths of the fields. -/
theorem entriesReturnedAsWritten : Obligations.EntriesReturnedAsWritten := by
  refine ⟨readsExactly_of_content (by decide) readHot_eq_content_iff,
    readsExactly_of_content (by decide) readBatch_eq_content_iff,
    readsExactly_of_content (by decide) readPrefix_eq_content_iff,
    readsExactly_of_content (by decide) readBand_eq_content_iff,
    readsExactly_of_content (by decide) readCalendar_eq_content_iff,
    fun h => ?_, fun e he => pageEntry_batch_bytes he, fun e _ => pageEntry_prefixes_bytes e,
    fun e he => pageEntry_bands_bytes he, fun c hc => pageEntry_calendar_bytes hc, fun x => ?_,
    rfl, rfl, rfl, rfl, rfl, rfl⟩
  · simp [PageEntry.bytes, entryField]
  · simp [PageEntry.bytes, entryField]

end Sys2Proof.Machine

/-! # The card table (03): what a command can do to cards, lists, tables and numbers -/

namespace Sys2Proof.Machine

/-! ## The words: what becomes of a record, and a change that touches no card -/

/-- R54: a station in IDLE or OUT_OF_SERVICE names no card, and one in READY names one. -/
def StationRecord.CardFits (r : StationRecord) : Prop :=
  (r.state = .idle ∨ r.state = .outOfService → r.card = none) ∧ (r.state = .ready → r.card.isSome = true)

/-- A station with a call fits, whatever card it names. -/
theorem StationRecord.cardFits_of_inCall {r : StationRecord} (h : r.state = .setup ∨ r.state = .talk ∨ r.state = .clearing) :
    r.CardFits := by
  obtain h | h | h := h <;> simp [StationRecord.CardFits, h]

/-- A station that names no card fits unless it is READY. -/
theorem StationRecord.cardFits_of_cardless {r : StationRecord} (hcard : r.card = none) (hstate : r.state ≠ .ready) :
    r.CardFits :=
  ⟨fun _ => hcard, fun h => (hstate h).elim⟩

/-- Card and state decide. -/
theorem StationRecord.CardFits.of_eq {r q : StationRecord} (h : r.CardFits) (hcard : q.card = r.card)
    (hstate : q.state = r.state) : q.CardFits := by
  simpa only [StationRecord.CardFits, hcard, hstate] using h

/-- R53: `q` is what became of the record `r`: of the same card, with no more confirmed units, in range if `r` was, and
ACTIVE only where `r` was. -/
structure CardRecord.Follows (r q : CardRecord) : Prop where
  serial : q.serial = r.serial
  confirmed : q.confirmed ≤ r.confirmed
  inRange : r.InRange → q.InRange
  active : ∀ i, q.state = .active i → r.state = .active i

theorem CardRecord.Follows.refl (r : CardRecord) : r.Follows r := ⟨rfl, le_rfl, id, fun _ => id⟩

theorem CardRecord.Follows.trans {r q p : CardRecord} (h : r.Follows q) (k : q.Follows p) : r.Follows p :=
  ⟨k.serial.trans h.serial, k.confirmed.trans h.confirmed, fun hr => k.inRange (h.inRange hr),
    fun i hi => h.active i (k.active i hi)⟩

/-- A change of the strikes alone, to at most 3. -/
theorem CardRecord.follows_strikes (r : CardRecord) {n : Nat} (h : n ≤ thirdStrike) : r.Follows { r with strikes := n } :=
  ⟨rfl, le_rfl, fun ⟨hbatch, hunits, hlow, _⟩ => ⟨hbatch, hunits, hlow, h⟩, fun _ => id⟩

/-- A change of the state alone, to REMEMBERED. -/
theorem CardRecord.follows_remembered (r : CardRecord) (n : Nat) : r.Follows { r with state := .remembered n } :=
  ⟨rfl, le_rfl, id, nofun⟩

/-- R59. -/
theorem CardRecord.follows_reported (b now : Nat) (r : CardRecord) : r.Follows (r.reported b now) := by
  have hle : min now (r.confirmed - b) ≤ r.confirmed := (min_le_right _ _).trans (Nat.sub_le _ _)
  exact ⟨rfl, hle, fun ⟨hbatch, hunits, _, hstrikes⟩ => ⟨hbatch, hle.trans hunits, Nat.zero_le _, hstrikes⟩, fun _ => id⟩

/-- R60. -/
theorem CardRecord.follows_noReply (units : Nat) (r : CardRecord) : r.Follows (r.noReply units) := by
  refine ⟨rfl, le_rfl, fun ⟨hbatch, hunits, hlow, hstrikes⟩ => ⟨hbatch, hunits, ?_, hstrikes⟩, fun _ => id⟩
  show r.uncertainLow.getD r.confirmed - units ≤ r.confirmed
  cases hu : r.uncertainLow with
  | none => exact Nat.sub_le _ _
  | some n => rw [hu] at hlow; exact (Nat.sub_le _ _).trans hlow

/-- R57: a tick of the remember timer. -/
theorem CardRecord.follows_tick (r : CardRecord) : r.Follows r.tick := by
  refine ⟨rfl, le_rfl, id, fun i h => ?_⟩
  cases hs : r.state <;> simp_all [CardRecord.tick]

/-- The entries of a bank. -/
def Bank.entries (b : Bank) : SlotTable PrefixEntry × SlotTable BandEntry × SlotTable CalendarSlot :=
  (b.prefixes, b.bands, b.calendar)

/-- A bank's tables are canonical, in range, and hold no key twice. -/
def Bank.TablesLegal (b : Bank) : Prop := b.Canonical ∧ b.EntriesLegal

theorem Bank.TablesLegal.of_entries {b c : Bank} (h : b.TablesLegal) (he : c.entries = b.entries) : c.TablesLegal := by
  simp only [Bank.entries, Prod.mk.injEq] at he
  obtain ⟨hp, hb, hc⟩ := he
  simpa only [Bank.TablesLegal, Bank.Canonical, Bank.EntriesLegal, hp, hb, hc] using h

/-- From `s` to `t` no entry of a bank changes, and pointer, failure counts, clock and record numbers keep their ranges. -/
structure State.Calm (s t : State) : Prop where
  pointer : s.mu.Inside → t.mu.Inside
  entries : ∀ x, (t.bank x).entries = (s.bank x).entries
  failures : (∀ i, s.de.failures.get i ≤ faultCount) → ∀ i, t.de.failures.get i ≤ faultCount
  clock : s.tb.Legal → t.tb.Legal
  numbers : s.rq.Numbered → t.rq.Numbered

/-- From `s` to `t`, besides, the card table and the card of every station stay. -/
structure State.Quiet (s t : State) : Prop extends s.Calm t where
  ct : t.ct = s.ct
  card : ∀ i, (t.station i).card = (s.station i).card
  fits : ∀ i, (s.station i).CardFits → (t.station i).CardFits

/-- Station `i` names the serial, or a record of the serial is ACTIVE there (R54: the one when the other). -/
def State.HoldsCard (s : State) (i : StationId) (x : Serial) : Prop :=
  (s.station i).card = some x ∨ ∃ r ∈ s.ct.cards, r.serial = x ∧ r.state = .active i

/-- The hot list and the auto-bar list replaced. -/
def State.withLists (s : State) (hot : SlotTable HotRange) (autobar : List Serial) : State :=
  { s with ct := { s.ct with hot := hot, autobar := autobar } }

/-- The batch table replaced. -/
def State.withBatches (s : State) (batches : SlotTable BatchEntry) : State :=
  { s with ct := { s.ct with batches := batches } }

/-- The slot at the pointer (R179). -/
def State.slotAtPointer (s : State) : Nat := s.mu.selector.slot s.mu.pointer

/-! ## The moves -/

/-- What a command does to the cards, lists and tables is a sequence of these moves; only the admission of a card
(`State.acceptCard`) is none of them. -/
inductive State.Move (s : State) : State → Prop
  /-- No card, list or table changes. -/
  | quiet {t : State} (h : s.Quiet t) : s.Move t
  /-- Every record is changed in place, ACTIVE where it was. -/
  | cards (f : CardRecord → CardRecord) (hf : ∀ r : CardRecord, r.Follows (f r))
      (hactive : ∀ (r : CardRecord) i, r.state = .active i → (f r).state = .active i) :
      s.Move (s.withCards (s.ct.cards.map f))
  /-- R56: a card leaves its station, whose record becomes `r`. -/
  | remove (i : StationId) (x : Serial) (r : StationRecord) (hx : s.HoldsCard i x) (hcard : r.card = none)
      (hstate : r.state ≠ .ready) : s.Move ((s.withCards (rememberCard x s.ct.cards)).setStation i r)
  /-- R57: a REMEMBERED record is deleted. -/
  | forget (x : Serial) (h : ∃ r ∈ s.ct.cards, r.serial = x ∧ r.isRemembered = true) :
      s.Move (s.withCards (dropCard x s.ct.cards))
  /-- R62, R74: a hot-list slot is written, when the cards that the range bars have left their stations. -/
  | hot (page : Fin 32) (o : Option HotRange) (hsel : s.mu.selector = .hot page)
      (hrange : ∀ h, o = some h → h.InRange ∧
        ∀ r ∈ s.ct.cards, ∀ i, r.state = .active i → (s.station i).card = none ∨ h.covers r.serial = false) :
      s.Move (s.withLists (SlotTable.write s.slotAtPointer o s.ct.hot) s.ct.autobar)
  /-- R61: a slot of the batch table is written. -/
  | batch (o : Option BatchEntry) (hsel : s.mu.selector = .batch)
      (hrange : ∀ e, o = some e → e.InRange ∧
        SlotTable.otherHas s.slotAtPointer (fun _ c => c.batch == e.batch) s.ct.batches = false) :
      s.Move (s.withBatches (SlotTable.write s.slotAtPointer o s.ct.batches))
  /-- R104: an entry of a bank is written. -/
  | bank (x : BankId) (b : Bank) (h : s.mu.Inside → (s.bank x).TablesLegal → b.TablesLegal) : s.Move (s.setBank x b)
  /-- R63, R75: a serial joins the auto-bar list, its card being in no station. -/
  | bar (x : Serial) (hnew : x ∉ s.ct.autobar) (h : ∃ r ∈ s.ct.cards, r.serial = x ∧ r.isRemembered = true) :
      s.Move (s.withLists s.ct.hot (addAutobar x s.ct.autobar))
  /-- R63: a serial leaves the auto-bar list. -/
  | unbar (x : Serial) : s.Move (s.withLists s.ct.hot (s.ct.autobar.erase x))
  /-- R188: the card table is emptied, and no station names a card. -/
  | restart {t : State} (calm : s.Calm t) (hct : t.ct = { s.ct with cards := [] })
      (hst : ∀ i, (t.station i).card = none ∧ (t.station i).state ≠ .ready) : s.Move t
  /-- R5, log 9: every block at its power-up state. -/
  | power (pins : Pins) (q : RecordQueue) (hq : s.rq.Numbered → q.Numbered) : s.Move (s.atPowerUp pins q)

/-- A sequence of moves. -/
def State.Moves (s t : State) : Prop := Relation.ReflTransGen State.Move s t

theorem State.Moves.refl (s : State) : s.Moves s := Relation.ReflTransGen.refl

section
variable {s t : State}

theorem State.Moves.move {u : State} (h : s.Moves t) (m : t.Move u) : s.Moves u := h.tail m

theorem State.Moves.quiet {u : State} (h : s.Moves t) (q : t.Quiet u) : s.Moves u := h.move (.quiet q)

end

/-! ## Changes that touch no card -/

theorem State.Calm.trans {s t u : State} (h : s.Calm t) (k : t.Calm u) : s.Calm u :=
  ⟨fun hp => k.pointer (h.pointer hp), fun x => (k.entries x).trans (h.entries x), fun hf => k.failures (h.failures hf),
    fun hc => k.clock (h.clock hc), fun hn => k.numbers (h.numbers hn)⟩

theorem State.Quiet.trans {s t u : State} (h : s.Quiet t) (k : t.Quiet u) : s.Quiet u :=
  ⟨h.toCalm.trans k.toCalm, k.ct.trans h.ct, fun i => (k.card i).trans (h.card i), fun i hi => k.fits i (h.fits i hi)⟩

section
variable {s t : State}

/-- The blocks whose ranges the obligations speak of stay. -/
theorem State.Calm.of_frame (hmu : t.mu = s.mu) (hbank : ∀ x, (t.bank x).entries = (s.bank x).entries)
    (hfail : t.de.failures = s.de.failures) (htb : t.tb = s.tb) (hrq : t.rq = s.rq) : s.Calm t := by
  refine ⟨?_, hbank, ?_, ?_, ?_⟩ <;> simp only [hmu, hfail, htb, hrq] <;> exact id

/-- Nothing is moved but what no obligation about cards, tables and numbers speaks of. -/
theorem State.Quiet.of_calm (hcalm : s.Calm t) (hct : t.ct = s.ct) (hcc : t.cc = s.cc) : s.Quiet t := by
  have hst : ∀ i, t.station i = s.station i := fun i => by simp only [State.station, hcc]
  exact ⟨hcalm, hct, fun i => by rw [hst], fun i hi => by rwa [hst]⟩

/-- No block but the two lines, the orders, the pins, the states and pin counts of banks and the bookkeeping changes. -/
theorem State.Quiet.of_frame (hct : t.ct = s.ct) (hcc : t.cc = s.cc) (hmu : t.mu = s.mu)
    (hbank : ∀ x, (t.bank x).entries = (s.bank x).entries) (hfail : t.de.failures = s.de.failures) (htb : t.tb = s.tb)
    (hrq : t.rq = s.rq) : s.Quiet t :=
  .of_calm (.of_frame hmu hbank hfail htb hrq) hct hcc

end

section
variable (s : State) (i : StationId)

theorem State.Quiet.refl : s.Quiet s := .of_frame rfl rfl rfl (fun _ => rfl) rfl rfl rfl

theorem State.quiet_offerRow (f : RowOutFrame) : s.Quiet (s.offerRow f) :=
  .of_frame rfl rfl rfl (fun _ => rfl) rfl rfl rfl

theorem State.quiet_offerLink (m : LinkMsg) : s.Quiet (s.offerLink m) :=
  .of_frame rfl rfl rfl (fun _ => rfl) rfl rfl rfl

theorem State.quiet_rlc (r : RowLine) : s.Quiet { s with rlc := r } :=
  .of_frame rfl rfl rfl (fun _ => rfl) rfl rfl rfl

theorem State.quiet_xlc (x : ExchangeLink) : s.Quiet { s with xlc := x } :=
  .of_frame rfl rfl rfl (fun _ => rfl) rfl rfl rfl

theorem State.quiet_refreshAttn : s.Quiet s.refreshAttn :=
  .of_frame rfl rfl rfl (fun _ => rfl) rfl rfl rfl

theorem State.quiet_setOrder (o : Option BurnOrder) : s.Quiet (s.setOrder i o) :=
  .of_frame rfl rfl rfl (fun _ => rfl) rfl rfl rfl

theorem State.quiet_forgetTag (t : Nat) : s.Quiet (s.forgetTag i t) :=
  .of_frame rfl rfl rfl (fun _ => rfl) rfl rfl rfl

theorem State.quiet_retireTag (o : BurnOrder) : s.Quiet (s.retireTag i o) := by
  cases ho : o.state <;> simp only [State.retireTag, ho] <;> exact .of_frame rfl rfl rfl (fun _ => rfl) rfl rfl rfl

/-- A change of a bank's state and pin count. -/
theorem State.quiet_setBank (x : BankId) (b : Bank) (h : b.entries = (s.bank x).entries) : s.Quiet (s.setBank x b) := by
  refine .of_frame rfl rfl rfl (fun y => ?_) rfl rfl rfl
  obtain rfl | rfl := x.eq_or_other y
  · rw [State.setBank_same, h]
  · rw [State.setBank_other]

theorem State.quiet_unpinBank (x : BankId) : s.Quiet (s.unpinBank x) := s.quiet_setBank x _ rfl

theorem State.quiet_pinBank (x : BankId) : s.Quiet (s.pinBank x) := s.quiet_setBank x _ rfl

theorem State.setStation_station (r : StationRecord) (j : StationId) :
    (s.setStation i r).station j = if j = i then r else s.station j :=
  PerStation.get_set s.cc i j r

/-- A write of a station record that keeps the card. -/
theorem State.quiet_setStation (r : StationRecord) (hcard : r.card = (s.station i).card)
    (hfits : (s.station i).CardFits → r.CardFits) : s.Quiet (s.setStation i r) := by
  refine ⟨.of_frame rfl (fun _ => rfl) rfl rfl rfl, rfl, fun j => ?_, fun j hj => ?_⟩
  · rw [State.setStation_station]
    split
    next h => rw [h, hcard]
    next => rfl
  · rw [State.setStation_station]
    split
    next h => exact hfits (h ▸ hj)
    next => exact hj

/-- A change of a station record that keeps card and state. -/
theorem State.quiet_mapStation (f : StationRecord → StationRecord) (hcard : (f (s.station i)).card = (s.station i).card)
    (hstate : (f (s.station i)).state = (s.station i).state) : s.Quiet (s.mapStation i f) :=
  s.quiet_setStation i _ hcard fun h => h.of_eq hcard hstate

/-- A change of a station record into a state of a call. -/
theorem State.quiet_mapStation_inCall (f : StationRecord → StationRecord)
    (hcard : (f (s.station i)).card = (s.station i).card)
    (hstate : (f (s.station i)).state = .setup ∨ (f (s.station i)).state = .talk ∨ (f (s.station i)).state = .clearing) :
    s.Quiet (s.mapStation i f) :=
  s.quiet_setStation i _ hcard fun _ => StationRecord.cardFits_of_inCall hstate

theorem State.quiet_mapContext (f : CallContext → CallContext) : s.Quiet (s.mapContext i f) :=
  s.quiet_mapStation i _ rfl rfl

/-- A change of the RQ that keeps its numbers in range. -/
theorem State.quiet_rq (q : RecordQueue) (h : s.rq.Numbered → q.Numbered) : s.Quiet { s with rq := q } :=
  .of_calm ⟨id, fun _ => rfl, id, id, h⟩ rfl rfl

/-- A change of a failure count within its range. -/
theorem State.quiet_failures (n : Nat) (h : n ≤ faultCount) :
    s.Quiet { s with de := { s.de with failures := s.de.failures.set i n } } := by
  refine .of_calm ⟨id, fun _ => rfl, fun hall j => ?_, id, id⟩ rfl rfl
  by_cases hj : j = i
  · subst hj
    simpa only [PerStation.get_set_same] using h
  · simpa only [PerStation.get_set_other _ _ _ _ hj] using hall j

/-- R92: a failure count is 0 after FULL and at most 4 otherwise. -/
theorem OrderOutcome.failures_le (out : OrderOutcome) (n : Nat) : out.failures n ≤ faultCount := by
  cases out with
  | full now => exact Nat.zero_le _
  | short b now => exact min_le_left _ _
  | undelivered => exact min_le_left _ _
  | timedOut => exact min_le_left _ _

theorem State.quiet_countFailure (out : OrderOutcome) : s.Quiet (s.countFailure i out) :=
  s.quiet_failures i _ (out.failures_le _)

end

/-! ## Record numbers -/

/-- R134: 1 follows 4294967295. -/
theorem recordNumber_next (n : Nat) : RecordNumber (nextRecordNumber n) := by
  unfold nextRecordNumber
  split
  next hlt => exact ⟨Nat.le_add_left 1 n, hlt⟩
  next => exact ⟨le_rfl, by decide⟩

/-- A write of the store keeps every number in range. -/
theorem RecordQueue.numbered_save {q : RecordQueue} (hnext : RecordNumber q.nextNumber)
    (hrec : ∀ r ∈ q.records, RecordNumber r.number) : q.save.Numbered :=
  ⟨hnext, hrec, hnext, hrec⟩

theorem RecordQueue.numbered_append {q : RecordQueue} (h : q.Numbered) (i : StationId) (x : CallContext) :
    (q.append i x).Numbered := by
  obtain ⟨hnext, hrec, _, _⟩ := h
  refine RecordQueue.numbered_save (recordNumber_next _) fun r hr => ?_
  obtain hr | hr := List.mem_append.1 hr
  · exact hrec r hr
  · rw [List.mem_singleton.1 hr]; exact hnext

theorem RecordQueue.numbered_release {q : RecordQueue} (h : q.Numbered) (n : Nat) : (q.release n).Numbered := by
  obtain ⟨hnext, hrec, _, _⟩ := h
  exact RecordQueue.numbered_save hnext fun r hr => hrec r (List.mem_of_mem_filter hr)

theorem RecordQueue.numbered_reset : RecordQueue.reset.Numbered := by
  simp [RecordQueue.Numbered, RecordQueue.reset, RecordNumber, lastRecordNumber]

theorem RecordQueue.numbered_judged {q : RecordQueue} (h : q.Numbered) : q.judged.Numbered := by
  obtain ⟨_, _, hnext, hrec⟩ := h
  unfold RecordQueue.judged
  split
  next => exact ⟨hnext, hrec, hnext, hrec⟩
  next => exact RecordQueue.numbered_reset

theorem RecordQueue.numbered_unpowered {q : RecordQueue} (h : q.Numbered) : q.unpowered.Numbered := by
  obtain ⟨_, _, hnext, hrec⟩ := h
  obtain ⟨hone, hnil, _, _⟩ := RecordQueue.numbered_reset
  exact ⟨hone, hnil, hnext, hrec⟩

theorem State.quiet_storeRecord (s : State) (i : StationId) (x : CallContext) : s.Quiet (s.storeRecord i x) :=
  s.quiet_rq _ fun h => RecordQueue.numbered_append h i x

end Sys2Proof.Machine

/-! # The card table (03): every operation of cards, calls and orders is a sequence of moves -/

namespace Sys2Proof.Machine

/-! ## Records in place -/

section
variable {s t : State}

/-- A change of the record of a serial alone. -/
theorem State.Moves.changeRecord (h : s.Moves t) (x : Serial) (f : CardRecord → CardRecord)
    (hf : ∀ r : CardRecord, r.Follows (f r))
    (hactive : ∀ (r : CardRecord) i, r.state = .active i → (f r).state = .active i) :
    s.Moves (t.withCards (changeCard x f t.ct.cards)) := by
  refine h.move (.cards (fun r => if r.serial = x then f r else r) (fun r => ?_) fun r i hr => ?_)
  · split
    next => exact hf r
    next => exact .refl r
  · split
    next => exact hactive r i hr
    next => exact hr

theorem State.Moves.strike (h : s.Moves t) (x : Serial) :
    s.Moves (t.withCards (changeCard x CardRecord.strike t.ct.cards)) :=
  h.changeRecord x _ (fun r => r.follows_strikes (min_le_left _ _)) fun _ _ => id

/-- R89. -/
theorem BurnOrder.follows_updateCard (o : BurnOrder) (out : OrderOutcome) (r : CardRecord) :
    r.Follows (o.updateCard out r) := by
  cases out with
  | full now => exact r.follows_reported o.units now
  | short b now => exact r.follows_reported b now
  | undelivered => exact .refl r
  | timedOut => exact r.follows_noReply o.units

theorem BurnOrder.updateCard_state (o : BurnOrder) (out : OrderOutcome) (r : CardRecord) :
    (o.updateCard out r).state = r.state := by
  cases out <;> rfl

theorem State.Moves.cardUpdate (h : s.Moves t) (o : BurnOrder) (out : OrderOutcome) : s.Moves (t.cardUpdate o out) := by
  unfold State.cardUpdate
  split
  next => exact h
  next => exact h.changeRecord _ _ (o.follows_updateCard out) fun r i hr => by rw [o.updateCard_state, hr]

end

/-! ## Frames and station records -/

section
variable {s t : State}

theorem State.Moves.offerRow (h : s.Moves t) (f : RowOutFrame) : s.Moves (t.offerRow f) := h.quiet (t.quiet_offerRow f)

theorem State.Moves.tellStation (h : s.Moves t) (i : StationId) (m : RowMsg) : s.Moves (t.tellStation i m) := h.offerRow _

theorem State.Moves.tellCard (h : s.Moves t) (i : StationId) (m : RowMsg) : s.Moves (t.tellCard i m) := h.offerRow _

theorem State.Moves.offerLink (h : s.Moves t) (m : LinkMsg) : s.Moves (t.offerLink m) := h.quiet (t.quiet_offerLink m)

theorem State.Moves.refreshAttn (h : s.Moves t) : s.Moves t.refreshAttn := h.quiet t.quiet_refreshAttn

theorem State.Moves.mapContext (h : s.Moves t) (i : StationId) (f : CallContext → CallContext) :
    s.Moves (t.mapContext i f) :=
  h.quiet (t.quiet_mapContext i f)

theorem State.Moves.mapStation (h : s.Moves t) (i : StationId) (f : StationRecord → StationRecord)
    (hcard : (f (t.station i)).card = (t.station i).card) (hstate : (f (t.station i)).state = (t.station i).state) :
    s.Moves (t.mapStation i f) :=
  h.quiet (t.quiet_mapStation i f hcard hstate)

theorem State.Moves.mapStation_inCall (h : s.Moves t) (i : StationId) (f : StationRecord → StationRecord)
    (hcard : (f (t.station i)).card = (t.station i).card)
    (hstate : (f (t.station i)).state = .setup ∨ (f (t.station i)).state = .talk ∨ (f (t.station i)).state = .clearing) :
    s.Moves (t.mapStation i f) :=
  h.quiet (t.quiet_mapStation_inCall i f hcard hstate)

end

/-! ## Cards leaving their stations -/

section
variable {s t : State} (h : s.Moves t) (i : StationId)
include h

/-- R56: the card of a station is removed, and the station goes on in a state that needs none. -/
theorem State.Moves.removeCard_mapStation (f : StationRecord → StationRecord)
    (hcard : (f { t.station i with card := none }).card = none)
    (hstate : (f { t.station i with card := none }).state ≠ .ready) : s.Moves ((t.removeCard i).mapStation i f) := by
  unfold State.removeCard
  split
  next x hx =>
    have hsame : (((t.withCards (rememberCard x t.ct.cards)).mapStation i fun r => { r with card := none }).mapStation i f)
        = (t.withCards (rememberCard x t.ct.cards)).setStation i (f { t.station i with card := none }) := by
      simp only [State.mapStation, State.setStation_same, State.setStation_setStation, State.withCards_station]
    rw [hsame]
    exact h.move (.remove i x _ (.inl hx) hcard hstate)
  next hx =>
    have hself : { t.station i with card := none } = t.station i := by rw [← hx]
    rw [hself] at hcard hstate
    exact h.quiet (t.quiet_setStation i _ (hcard.trans hx.symm) fun _ => StationRecord.cardFits_of_cardless hcard hstate)

theorem State.Moves.removeCard (hstate : (t.station i).state ≠ .ready) : s.Moves (t.removeCard i) := by
  have hmap := h.removeCard_mapStation i id rfl hstate
  rwa [State.mapStation, id, State.setStation_self] at hmap

/-- R21: the clear completes; with then_out set the card leaves. -/
theorem State.Moves.complete (x : CallContext) : s.Moves (t.complete i x) := by
  have hstored := (h.quiet (t.quiet_storeRecord i x)).quiet (State.quiet_unpinBank _ x.bank)
  unfold State.complete
  dsimp only
  split
  next hout =>
    refine hstored.removeCard_mapStation i _ rfl ?_
    simp [StationRecord.completed, hout]
  next hout =>
    refine hstored.quiet (State.quiet_setStation _ i _ rfl fun _ => ?_)
    cases hcard : (t.station i).card <;> simp [StationRecord.completed, StationRecord.CardFits, hout, hcard]

theorem State.Moves.completeIfDone : s.Moves (t.completeIfDone i) := by
  obtain heq | ⟨x, _, _, _, _, heq⟩ := t.completeIfDone_cases i
  · rwa [heq]
  · rw [heq]; exact h.complete i x

/-! ## Clearing -/

theorem State.Moves.cleared (c : EndCause) (released resolved : Bool) :
    s.Moves (t.mapStation i (StationRecord.cleared t.elapsed c released resolved)) :=
  h.mapStation_inCall i _ rfl (.inr (.inr rfl))

theorem State.Moves.startClear (c : EndCause) : s.Moves (t.startClear i c) := by
  rw [State.startClear_eq]
  exact ((h.cleared i c _ _).offerLink _).tellStation i _

theorem State.Moves.clearLinkDown : s.Moves (t.clearLinkDown i) :=
  ((h.cleared i _ _ _).tellStation i _).completeIfDone i

theorem State.Moves.exchangeClear (x : Byte) : s.Moves (t.exchangeClear i x) :=
  (((h.cleared i _ _ _).offerLink _).tellStation i _).completeIfDone i

theorem State.Moves.releaseCall : s.Moves (t.releaseCall i) := by
  unfold State.releaseCall
  split
  next x _ =>
    split
    next => exact h
    next => exact (h.mapStation i StationRecord.released rfl rfl).completeIfDone i
  next => exact h

theorem State.Moves.linkDownStation : s.Moves (t.linkDownStation i) := by
  unfold State.linkDownStation
  split
  next => exact h.clearLinkDown i
  next => exact h.clearLinkDown i
  next => exact h.releaseCall i
  all_goals exact h

/-! ## Out of service -/

theorem State.Moves.takeOut (r : OutReason) : s.Moves (t.takeOut i r) := by
  unfold State.takeOut
  split
  next hidle =>
    have hout := h.quiet (t.quiet_setStation i { t.station i with state := .outOfService, outReason := some r } rfl
      fun hfits => StationRecord.cardFits_of_cardless (hfits.1 (.inl hidle)) (by simp))
    exact hout.tellStation i _
  next => exact (h.removeCard_mapStation i _ rfl (by simp)).tellStation i _
  next => exact ((h.mapStation i _ rfl rfl).startClear i _).tellStation i _
  next => exact ((h.mapStation i _ rfl rfl).startClear i _).tellStation i _
  next =>
    refine State.Moves.tellStation (h.mapStation i _ ?_ ?_) i _
    all_goals split <;> rfl
  next => exact h

theorem State.Moves.putInService : s.Moves (t.putInService i) := by
  unfold State.putInService
  split
  next hout =>
    have hidle := h.quiet (t.quiet_setStation i { t.station i with state := .idle, outReason := none } rfl
      fun hfits => StationRecord.cardFits_of_cardless (hfits.1 (.inr hout)) (by simp))
    exact (hidle.quiet (State.quiet_failures _ i 0 (Nat.zero_le _))).tellStation i _
  next => exact h

theorem State.Moves.setMode (k : Nat) (m : Mode) : s.Moves (t.setMode i k m) := by
  have hcls := h.mapStation i (fun r => { r with cls := k }) rfl rfl
  cases m with
  | into => exact hcls.putInService i
  | out => exact hcls.takeOut i .takenOut

end

/-! ## Barring -/

section
variable {s t : State} (h : s.Moves t)
include h

/-- R24: a station that has lost its card, and is not READY. -/
theorem State.Moves.lostToBar (i : StationId) (hstate : (t.station i).state ≠ .ready) : s.Moves (t.lostToBar i) := by
  unfold State.lostToBar
  split
  next hready => exact (hstate hready).elim
  next => exact h.startClear i _
  next => exact h.startClear i _
  all_goals exact h

/-- R73, R24: a card in use is barred. -/
theorem State.Moves.barCard (i : StationId) (x : Serial) (c : Byte) (hx : t.HoldsCard i x) : s.Moves (t.barCard i x c) := by
  have hleave : ∀ r : StationRecord, r.card = none → r.state ≠ .ready →
      s.Moves (((t.withCards (rememberCard x t.ct.cards)).tellCard i (.cardRefused (.barred c))).setStation i r) :=
    fun r hcard hstate => (h.move (.remove i x r hx hcard hstate)).tellCard i _
  by_cases hready : (t.station i).state = .ready
  · have hidle := hleave { t.station i with card := none, state := .idle } rfl (by simp)
    simpa [State.barCard, State.lostToBar, hready, State.mapStation] using hidle
  · exact (hleave { t.station i with card := none } rfl hready).lostToBar i (by simpa using hready)

end

end Sys2Proof.Machine

/-! # The card table (03): barring, and a range written to the hot list -/

namespace Sys2Proof.Machine

/-! ## Finding and changing records -/

theorem CardTable.find_some {t : CardTable} {x : Serial} {r : CardRecord} (h : t.find x = some r) :
    r ∈ t.cards ∧ r.serial = x :=
  ⟨List.mem_of_find?_eq_some h, by simpa using List.find?_some h⟩

@[simp] theorem mem_dropCard {x : Serial} {cs : List CardRecord} {r : CardRecord} :
    r ∈ dropCard x cs ↔ r ∈ cs ∧ r.serial ≠ x := by simp [dropCard]

theorem CardRecord.isRemembered_iff (r : CardRecord) : r.isRemembered = true ↔ ∀ i, r.state ≠ .active i := by
  cases hr : r.state <;> simp [CardRecord.isRemembered, hr]

theorem CardRecord.not_isRemembered_iff (r : CardRecord) : r.isRemembered = false ↔ ∃ i, r.state = .active i := by
  cases hr : r.state <;> simp [CardRecord.isRemembered, hr]

/-- R56: the record found ACTIVE moves to the tail, REMEMBERED. -/
theorem rememberCard_of_active {x : Serial} {cs : List CardRecord} {r : CardRecord} {i : StationId}
    (hfind : (cs.find? fun r => r.serial == x) = some r) (hactive : r.state = .active i) :
    rememberCard x cs = dropCard x cs ++ [{ r with state := .remembered rememberTime }] := by
  simp [rememberCard, hfind, CardRecord.isRemembered, hactive]

/-- R56: what becomes of the records. -/
theorem rememberCard_cases (x : Serial) (cs : List CardRecord) :
    rememberCard x cs = cs ∨ ∃ r ∈ cs, r.serial = x ∧
      rememberCard x cs = dropCard x cs ++ [{ r with state := .remembered rememberTime }] := by
  unfold rememberCard
  split
  next r hfind =>
    split
    next => exact .inl rfl
    next => exact .inr ⟨r, List.mem_of_find?_eq_some hfind, by simpa using List.find?_some hfind, rfl⟩
  next => exact .inl rfl

/-- A record ACTIVE after R56 stood there before. -/
theorem mem_of_mem_rememberCard_of_active {x : Serial} {cs : List CardRecord} {r : CardRecord} {i : StationId}
    (h : r ∈ rememberCard x cs) (hr : r.state = .active i) : r ∈ cs := by
  obtain heq | ⟨q, _, _, heq⟩ := rememberCard_cases x cs <;> rw [heq] at h
  · exact h
  · obtain h | h := List.mem_append.1 h
    · exact (mem_dropCard.1 h).1
    · rw [List.mem_singleton.1 h] at hr
      cases hr

/-! ## What barring a card does -/

section
variable (s : State) (i : StationId)

@[simp] theorem State.startClear_ct (c : EndCause) : (s.startClear i c).ct = s.ct := by rw [State.startClear_eq]; rfl

@[simp] theorem State.startClear_card (c : EndCause) : ((s.startClear i c).station i).card = (s.station i).card := by
  simp [State.startClear_eq, StationRecord.cleared]

theorem State.startClear_other (c : EndCause) {j : StationId} (h : j ≠ i) : (s.startClear i c).station j = s.station j := by
  simp [State.startClear_eq, State.mapStation_other _ _ _ _ h]

@[simp] theorem State.lostToBar_ct : (s.lostToBar i).ct = s.ct := by
  unfold State.lostToBar
  split <;> simp

@[simp] theorem State.lostToBar_card : ((s.lostToBar i).station i).card = (s.station i).card := by
  unfold State.lostToBar
  split <;> simp

theorem State.lostToBar_other {j : StationId} (h : j ≠ i) : (s.lostToBar i).station j = s.station j := by
  unfold State.lostToBar
  split <;> simp only [State.mapStation_other _ _ _ _ h, State.startClear_other _ _ _ h]

/-- R73: of the Card Table, only the records change. -/
@[simp] theorem State.barCard_ct (x : Serial) (c : Byte) :
    (s.barCard i x c).ct = { s.ct with cards := rememberCard x s.ct.cards } := by
  simp [State.barCard]

@[simp] theorem State.barCard_card (x : Serial) (c : Byte) : ((s.barCard i x c).station i).card = none := by
  simp [State.barCard]

theorem State.barCard_other (x : Serial) (c : Byte) {j : StationId} (h : j ≠ i) :
    (s.barCard i x c).station j = s.station j := by
  simp [State.barCard, State.lostToBar_other _ _ h, State.mapStation_other _ _ _ _ h]

/-- Barring a card does not read the lists. -/
theorem State.barCard_withLists (x : Serial) (c : Byte) (hot : SlotTable HotRange) (autobar : List Serial) :
    (s.withLists hot autobar).barCard i x c = (s.barCard i x c).withLists hot autobar := by
  have hstart : ∀ u : State, (u.withLists hot autobar).startClear i .barredCard
      = (u.startClear i .barredCard).withLists hot autobar := fun u => by
    rw [State.startClear_eq, State.startClear_eq]; rfl
  have hlost : ∀ u : State, (u.withLists hot autobar).lostToBar i = (u.lostToBar i).withLists hot autobar := fun u => by
    have hstation : (u.withLists hot autobar).station i = u.station i := rfl
    unfold State.lostToBar
    rw [hstation]
    split
    next => rfl
    next => exact hstart u
    next => exact hstart u
    all_goals rfl
  exact hlost (((s.withCards (rememberCard x s.ct.cards)).tellCard i (.cardRefused (.barred c))).mapStation i fun t =>
    { t with card := none })

end

/-! ## A third strike -/

section
variable {s t : State} (h : s.Moves t)
include h

/-- R75, R76: a strike against a serial that is not barred. -/
theorem State.Moves.countStrike (x : Serial) (hnew : x ∉ t.ct.autobar) : s.Moves (t.countStrike x) := by
  have hstruck := h.strike x
  unfold State.countStrike
  dsimp only
  generalize hu : t.withCards (changeCard x CardRecord.strike t.ct.cards) = u at *
  have hunew : x ∉ u.ct.autobar := by rw [← hu]; exact hnew
  split
  next r hfind =>
    obtain ⟨hmem, hserial⟩ := CardTable.find_some hfind
    split
    next =>
      split
      next i hactive =>
        have hbarred := hstruck.barCard i x 0 (.inr ⟨r, hmem, hserial, hactive⟩)
        have hleft : ∃ q ∈ (u.barCard i x 0).ct.cards, q.serial = x ∧ q.isRemembered = true := by
          rw [State.barCard_ct, rememberCard_of_active hfind hactive]
          exact ⟨_, List.mem_append_right _ (List.mem_singleton_self _), hserial, rfl⟩
        have hlisted := hbarred.move (.bar x (by rwa [State.barCard_ct]) hleft)
        rw [State.barCard_ct, ← State.barCard_withLists] at hlisted
        exact hlisted
      next n hremembered =>
        exact hstruck.move (.bar x hunew ⟨r, hmem, hserial, by simp [CardRecord.isRemembered, hremembered]⟩)
    next => exact hstruck
  next => exact hstruck

end

/-! ## A range written to the hot list -/

/-- What one station's turn establishes for it, and every turn keeps, holds of every station after all have acted. -/
theorem foldl_stationIds_establishes {P : State → StationId → Prop} {f : State → StationId → State}
    (hset : ∀ s i, P (f s i) i) (hkeep : ∀ s i j, P s i → P (f s j) i) (s : State) (i : StationId) :
    P (stationIds.foldl f s) i := by
  have hall : ∀ (l : List StationId) (s : State), i ∈ l → P (l.foldl f s) i := by
    intro l
    induction l with
    | nil => exact fun _ hi => absurd hi List.not_mem_nil
    | cons j l ih =>
      intro s hi
      obtain rfl | hi := List.mem_cons.1 hi
      · exact List.foldlRecOn l f (motive := fun u => P u i) (hset s i) fun u hu j _ => hkeep u i j hu
      · exact ih _ hi
  exact hall stationIds s (mem_stationIds i)

section
variable (h : HotRange)

/-- R74: the record found ACTIVE in the range, or none. -/
theorem State.barIfCovered_cases (s : State) (i : StationId) :
    (∃ r ∈ s.ct.cards, r.state = .active i ∧ h.covers r.serial = true ∧
      s.barIfCovered h i = s.barCard i r.serial h.code) ∨
    (s.barIfCovered h i = s ∧ ∀ r ∈ s.ct.cards, r.state = .active i → h.covers r.serial = false) := by
  unfold State.barIfCovered CardTable.activeAt
  split
  next r hfind =>
    have hr := List.find?_some hfind
    simp only [CardRecord.activeAt, Bool.and_eq_true, beq_iff_eq] at hr
    exact .inl ⟨r, List.mem_of_find?_eq_some hfind, hr.1, hr.2, rfl⟩
  next hfind =>
    refine .inr ⟨rfl, fun r hr hactive => ?_⟩
    simpa [CardRecord.activeAt, hactive] using List.find?_eq_none.1 hfind r hr

theorem State.barIfCovered_other (s : State) {i j : StationId} (hj : j ≠ i) :
    (s.barIfCovered h i).station j = s.station j := by
  obtain ⟨r, _, _, _, heq⟩ | ⟨heq, _⟩ := s.barIfCovered_cases h i
  · rw [heq, State.barCard_other _ _ _ _ hj]
  · rw [heq]

theorem State.mem_of_mem_barIfCovered {s : State} {i j : StationId} {r : CardRecord}
    (hr : r ∈ (s.barIfCovered h i).ct.cards) (hactive : r.state = .active j) : r ∈ s.ct.cards := by
  obtain ⟨q, _, _, _, heq⟩ | ⟨heq, _⟩ := s.barIfCovered_cases h i <;> rw [heq] at hr
  · rw [State.barCard_ct] at hr
    exact mem_of_mem_rememberCard_of_active hr hactive
  · exact hr

/-- Station `i` names no card, or no record in the range is ACTIVE there. -/
def State.ClearOf (s : State) (i : StationId) : Prop :=
  ∀ r ∈ s.ct.cards, r.state = .active i → (s.station i).card = none ∨ h.covers r.serial = false

theorem State.barIfCovered_clearOf (s : State) (i : StationId) : (s.barIfCovered h i).ClearOf h i := by
  intro r hr hactive
  obtain ⟨q, _, _, _, heq⟩ | ⟨heq, hnone⟩ := s.barIfCovered_cases h i
  · rw [heq]; exact .inl (s.barCard_card i _ _)
  · rw [heq] at hr; exact .inr (hnone r hr hactive)

/-- A station that is clear stays so while other stations act. -/
theorem State.ClearOf.barIfCovered {s : State} {i : StationId} (hs : s.ClearOf h i) (j : StationId) :
    (s.barIfCovered h j).ClearOf h i := by
  by_cases hij : i = j
  · subst hij; exact s.barIfCovered_clearOf h i
  · intro r hr hactive
    rw [State.barIfCovered_other h s hij]
    exact hs r (State.mem_of_mem_barIfCovered h hr hactive) hactive

/-- R74: after the bars no station holds a card in the range. -/
theorem State.barRange_clearOf (s : State) (i : StationId) : (s.barRange h).ClearOf h i :=
  foldl_stationIds_establishes (P := fun u j => u.ClearOf h j) (f := State.barIfCovered h)
    (fun u j => u.barIfCovered_clearOf h j) (fun _ _ k hu => hu.barIfCovered h k) s i

/-- The bars do not read the lists. -/
theorem State.barRange_withLists (s : State) (hot : SlotTable HotRange) (autobar : List Serial) :
    (s.withLists hot autobar).barRange h = (s.barRange h).withLists hot autobar := by
  refine List.foldl_hom (State.withLists · hot autobar) fun u i => ?_
  unfold State.barIfCovered
  rw [show (u.withLists hot autobar).ct.activeAt i h.covers = u.ct.activeAt i h.covers from rfl]
  split
  next => exact State.barCard_withLists _ _ _ _ _ _
  next => rfl

/-- The bars change no list, no page and no pointer. -/
theorem State.barRange_lists (s : State) :
    (s.barRange h).ct = { s.ct with cards := (s.barRange h).ct.cards } ∧ (s.barRange h).mu = s.mu := by
  unfold State.barRange
  refine List.foldlRecOn (motive := fun u : State => u.ct = { s.ct with cards := u.ct.cards } ∧ u.mu = s.mu) stationIds
    (State.barIfCovered h) ⟨rfl, rfl⟩ fun u ⟨hct, hmu⟩ i _ => ?_
  obtain ⟨r, _, _, _, heq⟩ | ⟨heq, _⟩ := u.barIfCovered_cases h i <;> rw [heq]
  · exact ⟨by rw [State.barCard_ct, hct], ((State.still_iff _ _).1 (State.barCard_still u i _ _)).2.2.2.1.trans hmu⟩
  · exact ⟨hct, hmu⟩

end

section
variable {s t : State} (hm : s.Moves t)
include hm

theorem State.Moves.barIfCovered (h : HotRange) (i : StationId) : s.Moves (t.barIfCovered h i) := by
  obtain ⟨r, hr, hactive, _, heq⟩ | ⟨heq, _⟩ := t.barIfCovered_cases h i <;> rw [heq]
  · exact hm.barCard i _ _ (.inr ⟨r, hr, rfl, hactive⟩)
  · exact hm

/-- What every operation of a list of stations keeps to moves, all in turn do. -/
theorem State.Moves.foldl {f : State → StationId → State} (hf : ∀ {u}, s.Moves u → ∀ i, s.Moves (f u i))
    (l : List StationId) : s.Moves (l.foldl f t) :=
  List.foldlRecOn l f hm fun _ hu i _ => hf hu i

/-- R62, R74: a range is written to the slot at the pointer, and the cards in it are barred. -/
theorem State.Moves.putHot (page : Fin 32) (h : HotRange) (hsel : t.mu.selector = .hot page) (hrange : h.InRange) :
    s.Moves ((t.withLists (SlotTable.write t.slotAtPointer (some h) t.ct.hot) t.ct.autobar).barRange h) := by
  have hbarred : s.Moves (t.barRange h) := hm.foldl (fun hu i => hu.barIfCovered h i) _
  obtain ⟨hct, hmu⟩ := t.barRange_lists h
  have hput := hbarred.move (.hot page (some h) (by rw [hmu, hsel]) fun g hg => by
    cases hg
    exact ⟨hrange, fun r hr i hactive => t.barRange_clearOf h i r hr hactive⟩)
  rw [State.slotAtPointer, hmu, hct, ← State.barRange_withLists] at hput
  exact hput

end

end Sys2Proof.Machine

/-! # The card table (03): the moves of the orders, the clock and the management requests -/

namespace Sys2Proof.Machine

/-! ## Orders and their outcomes -/

section
variable {s t : State} (h : s.Moves t) (i : StationId)
include h

theorem State.Moves.setOrder (o : Option BurnOrder) : s.Moves (t.setOrder i o) := h.quiet (t.quiet_setOrder i o)

theorem State.Moves.countFailure (out : OrderOutcome) : s.Moves (t.countFailure i out) :=
  h.quiet (t.quiet_countFailure i out)

theorem State.Moves.markFinal (c : FinalCause) : s.Moves (t.markFinal i c) := (h.mapContext i _).tellStation i _

theorem State.Moves.cutBack (l : List Interval) (c : FinalCause) : s.Moves (t.cutBack i l c) := by
  have hcut := h.mapStation i (fun r => { r with intervals := l }) rfl rfl
  unfold State.cutBack
  dsimp only
  split
  next => exact hcut.startClear i _
  next => exact hcut.markFinal i _

theorem State.Moves.outcomeInTalk (o : BurnOrder) (out : OrderOutcome) (x : CallContext) :
    s.Moves (t.outcomeInTalk i o out x) := by
  cases out with
  | full now => exact h.mapStation i (fun r => { r with intervals := payAll r.intervals }) rfl rfl
  | short b now => exact h.cutBack i _ _
  | undelivered => exact h.cutBack i _ _
  | timedOut => exact h.cutBack i _ _

theorem State.Moves.resolveOrder : s.Moves (t.resolveOrder i) := (h.mapContext i _).completeIfDone i

theorem State.Moves.outcomeToCall (o : BurnOrder) (out : OrderOutcome) : s.Moves (t.outcomeToCall i o out) := by
  have htotals := h.mapContext i (o.totals out)
  unfold State.outcomeToCall
  dsimp only
  split
  next => exact htotals.outcomeInTalk i o out _
  next => exact htotals.resolveOrder i
  next => exact htotals

theorem State.Moves.outcomeSteps (o : BurnOrder) (out : OrderOutcome) : s.Moves (t.outcomeSteps i o out) := by
  have hsteps := (((h.cardUpdate o out).countFailure i out).setOrder i none).outcomeToCall i o out
  unfold State.outcomeSteps
  dsimp only
  split
  next => exact hsteps.takeOut i _
  next => exact hsteps

theorem State.Moves.issueOrder (x : Serial) (units : Nat) (p : Purpose) : s.Moves (t.issueOrder i x units p) := by
  have hissued : ∀ o n, s.Moves { t with de := { t.de with orders := t.de.orders.set i o, tagCounter := n } } :=
    fun o n => h.quiet (.of_frame rfl rfl rfl (fun _ => rfl) rfl rfl rfl)
  unfold State.issueOrder
  dsimp only
  split
  next => exact (hissued _ _).offerRow _
  next => exact (hissued _ _).outcomeSteps i _ _

theorem State.Moves.replenish (x : BankId) (b : Band) (card : Serial) : s.Moves (t.replenish i x b card) := by
  unfold State.replenish
  dsimp only
  split
  next => exact h.markFinal i _
  next => exact (h.mapStation i _ rfl rfl).issueOrder i _ _ _

theorem State.Moves.considerReplenish : s.Moves (t.considerReplenish i) := by
  unfold State.considerReplenish
  split
  next =>
    split
    next =>
      split
      next => exact h.replenish i _ _ _
      next => exact h
    next => exact h
  next => exact h

theorem State.Moves.takeOutcome (o : BurnOrder) (out : OrderOutcome) : s.Moves (t.takeOutcome i o out) := by
  cases out with
  | full now => exact (h.outcomeSteps i o _).considerReplenish i
  | short b now => exact h.outcomeSteps i o _
  | undelivered => exact h.outcomeSteps i o _
  | timedOut => exact h.outcomeSteps i o _

/-! ## The answer, the head, reports -/

theorem State.Moves.answerFree : s.Moves (t.answerFree i) :=
  (h.mapStation_inCall i _ rfl (.inr (.inl rfl))).tellStation i _

theorem State.Moves.openTalk (card : Serial) (e : BandEntry) (j : Nat) : s.Moves (t.openTalk i card e j) :=
  ((h.mapStation_inCall i _ rfl (.inr (.inl rfl))).tellStation i _).issueOrder i _ _ _

theorem State.Moves.answerCharged (x : BankId) (b : Band) : s.Moves (t.answerCharged i x b) := by
  have hanswered : ∀ f : CallContext → CallContext,
      s.Moves (t.mapStation i fun r => { r with answerTimer := none, context := r.context.map f }) :=
    fun f => h.mapStation i _ rfl rfl
  unfold State.answerCharged
  dsimp only
  split
  next =>
    split
    next => exact (hanswered _).startClear i _
    next => exact (hanswered _).openTalk i _ _ _
  next => exact (hanswered _).startClear i _

theorem State.Moves.answerCall : s.Moves (t.answerCall i) := by
  unfold State.answerCall
  split
  next =>
    split
    next => exact h.answerFree i
    next => exact h.answerCharged i _ _
  next => exact h.offerLink _

theorem State.Moves.headExpired (x : CallContext) : s.Moves (t.headExpired i x) := by
  unfold State.headExpired
  split
  next => exact h.startClear i _
  next =>
    split
    next => exact (h.mapStation i _ rfl rfl).considerReplenish i
    next => exact h.startClear i _

theorem State.Moves.takeReport (tag burned now : Nat) : s.Moves (t.takeReport i tag burned now) := by
  unfold State.takeReport
  split
  next o _ =>
    split
    next => exact (h.quiet (t.quiet_retireTag i o)).takeOutcome i _ _
    next => exact h
  next => exact h

theorem State.Moves.burnDelivered (tag : Nat) : s.Moves (t.burnDelivered i tag) := by
  unfold State.burnDelivered
  split
  next => exact h.setOrder i _
  next => exact h.quiet (t.quiet_forgetTag i tag)

theorem State.Moves.burnUndelivered (tag : Nat) : s.Moves (t.burnUndelivered i tag) := by
  unfold State.burnUndelivered
  split
  next => exact h.takeOutcome i _ _
  next => exact h.quiet (t.quiet_forgetTag i tag)

/-! ## Call admission -/

theorem State.Moves.openCall (digits : List Digit) (x : BankId) (k : CallKind) : s.Moves (t.openCall i digits x k) := by
  have hreserved : s.Moves { t.pinBank x with rq := (t.pinBank x).rq.reserve } :=
    (h.quiet (t.quiet_pinBank x)).quiet (State.quiet_rq _ _ id)
  have hcontext := hreserved.mapStation i (fun r => { r with context := some (t.newContext i digits x k) }) rfl rfl
  exact (hcontext.offerLink _).mapStation_inCall i
    (fun r => { r with answerTimer := some answerTime, state := .setup }) rfl (.inl rfl)

theorem State.Moves.judgeNumber (digits : List Digit) : s.Moves (t.judgeNumber i digits) := by
  unfold State.judgeNumber
  split
  next => exact h.openCall i _ _ _
  next => exact h.tellStation i _

end

/-! ## The clock -/

section
variable {b : TimeBase}

/-- R121: every month has a day. -/
theorem one_le_monthLength (year month : Nat) : 1 ≤ monthLength year month := by
  unfold monthLength
  split
  next => split <;> decide
  next => split <;> decide

/-- R122: the day after a real date is real. -/
theorem Date.real_next {d : Date} (h : d.real = true) : d.next.real = true := by
  simp only [Date.real, decide_eq_true_eq] at h
  obtain ⟨hyear, hmonth, hmonthmax, hday, hdaymax⟩ := h
  have hlen := one_le_monthLength
  unfold Date.next
  split
  next hz => rw [hz] at hmonth; exact absurd hmonth (by decide)
  next =>
    split
    next hlt => simp only [Date.real, decide_eq_true_eq]; omega
    next =>
      split
      next hm => simpa [Date.real, hyear] using ⟨hm, hlen _ _⟩
      next =>
        simp only [Date.real, decide_eq_true_eq]
        exact ⟨by split <;> omega, by decide, by decide, le_rfl, hlen _ _⟩

/-- R122: a tenth later the time of day is one. -/
theorem TimeBase.legal_advance (h : b.Legal) : b.advance.Legal := by
  obtain ⟨hdate, hhour, hminute, hsecond, htenth, htrusted⟩ := h
  refine ⟨?_, ?_⟩
  · unfold TimeBase.advance
    dsimp only
    split
    next =>
      obtain hz | hreal := hdate
      · exact .inl (by rw [hz]; rfl)
      · exact .inr (Date.real_next hreal)
    next => exact hdate
  · have htime : b.time.next.1.hour ≤ 23 ∧ b.time.next.1.minute ≤ 59 ∧ b.time.next.1.second ≤ 59 ∧
        b.time.next.1.tenth ≤ 9 := by
      unfold TimeOfDay.next
      split_ifs <;> simp only <;> omega
    obtain ⟨h1, h2, h3, h4⟩ := htime
    exact ⟨h1, h2, h3, h4, htrusted⟩

/-- R123: a CLOCK frame sets a legal clock or none. -/
theorem TimeBase.legal_accept (h : b.Legal) (f : ClockFrame) : (b.accept f).Legal := by
  unfold TimeBase.accept
  dsimp only
  split
  next => exact h
  next =>
    split
    next hok =>
      obtain ⟨hreal, hhour, hminute, hsecond⟩ := hok
      exact ⟨.inr hreal, hhour, hminute, hsecond, Nat.zero_le _, rfl⟩
    next => exact h

/-- R121: a tick leaves the untrust timer running. -/
theorem TimeBase.legal_tick (h : b.Legal) : ({ b.advance with untrust := tickTimer b.untrust } : TimeBase).Legal := by
  obtain ⟨hdate, hhour, hminute, hsecond, htenth, htrusted⟩ := TimeBase.legal_advance h
  exact ⟨hdate, hhour, hminute, hsecond, htenth, by rw [htrusted, tickTimer, Option.isSome_map]; rfl⟩

/-- R124: the clock is no longer trusted. -/
theorem TimeBase.legal_untrusted (h : b.Legal) : ({ b with trusted := false, untrust := none } : TimeBase).Legal := by
  obtain ⟨hdate, hhour, hminute, hsecond, htenth, _⟩ := h
  exact ⟨hdate, hhour, hminute, hsecond, htenth, rfl⟩

end

/-- A change of the TB that keeps the clock legal. -/
theorem State.quiet_tb (s : State) (b : TimeBase) (h : s.tb.Legal → b.Legal) : s.Quiet { s with tb := b } :=
  .of_calm ⟨id, fun _ => rfl, id, h, id⟩ rfl rfl

/-- R122: a tenth of a second passes. -/
theorem State.Moves.tick {s t : State} (h : s.Moves t) : s.Moves t.tick := by
  have hcards := h.move (.cards CardRecord.tick CardRecord.follows_tick fun r i hr => by simp only [CardRecord.tick, hr])
  refine hcards.quiet ⟨⟨id, fun _ => rfl, id, TimeBase.legal_tick, id⟩, rfl, fun i => ?_, fun i hi => hi.of_eq ?_ ?_⟩
  all_goals simp [State.tick, State.station, StationRecord.tick]

end Sys2Proof.Machine

/-! # The card table (03): entries written at the pointer -/

namespace Sys2Proof.Machine

/-! ## A write into a canonical table -/

section
variable {α : Type} (k : Nat)

/-- A write replaces what stands in the slot and leaves what stands before and behind it. -/
theorem SlotTable.write_eq : ∀ t : SlotTable α, (t.map Prod.fst).Pairwise (· < ·) →
    ∃ pre post, t = pre ++ ((SlotTable.read k t).map fun e => (k, e)).toList ++ post ∧
      (∀ e ∈ pre ++ post, e.1 ≠ k) ∧ ∀ o, SlotTable.write k o t = pre ++ (o.map fun e => (k, e)).toList ++ post
  | [], _ => ⟨[], [], rfl, by simp, fun o => by simp [SlotTable.write]⟩
  | (j, a) :: t, h => by
    obtain ⟨hj, ht⟩ := List.pairwise_cons.1 h
    have hbehind : ∀ e ∈ t, j < e.1 := fun e he => hj e.1 (List.mem_map_of_mem he)
    obtain hlt | rfl | hgt := lt_trichotomy k j
    · have habove : ∀ e ∈ (j, a) :: t, k < e.1 := List.forall_mem_cons.2 ⟨hlt, fun e he => hlt.trans (hbehind e he)⟩
      refine ⟨[], (j, a) :: t, ?_, fun e he => (habove e he).ne', fun o => by simp [SlotTable.write, hlt]⟩
      rw [SlotTable.read_below k _ habove]; rfl
    · exact ⟨[], t, by simp [SlotTable.read], fun e he => (hbehind e he).ne', fun o => by simp [SlotTable.write]⟩
    · obtain ⟨pre, post, heq, hne, hwrite⟩ := SlotTable.write_eq t ht
      refine ⟨(j, a) :: pre, post, ?_, List.forall_mem_cons.2 ⟨hgt.ne, hne⟩, fun o => ?_⟩
      · rw [SlotTable.read, if_neg hgt.ne, List.cons_append, List.cons_append, ← heq]
      · rw [SlotTable.write, if_neg hgt.not_gt, if_neg hgt.ne', hwrite]; rfl

/-- A write whose key stands in no other slot keeps every key single. -/
theorem SlotTable.nodup_keys_write {κ : Type} (key : Nat × α → κ) {t : SlotTable α} (o : Option α)
    (hsorted : (t.map Prod.fst).Pairwise (· < ·)) (hkeys : (t.map key).Nodup)
    (hnew : ∀ e, o = some e → ∀ p ∈ t, p.1 ≠ k → key p ≠ key (k, e)) : ((SlotTable.write k o t).map key).Nodup := by
  obtain ⟨pre, post, heq, hne, hwrite⟩ := SlotTable.write_eq k t hsorted
  have hsub : (pre ++ post).Sublist t := by
    conv_rhs => rw [heq]
    exact (List.sublist_append_left pre _).append_right post
  have hrest : ((pre ++ post).map key).Nodup := hkeys.sublist (hsub.map key)
  rw [hwrite]
  cases o with
  | none => simpa using hrest
  | some e =>
    have hfresh : key (k, e) ∉ (pre ++ post).map key := by
      intro hmem
      obtain ⟨p, hp, hpk⟩ := List.mem_map.1 hmem
      exact hnew e rfl p (hsub.subset hp) (hne p hp) hpk
    simpa [List.nodup_middle] using (List.nodup_cons.2 ⟨hfresh, hrest⟩)

theorem SlotTable.otherHas_iff (p : Nat → α → Bool) (t : SlotTable α) :
    SlotTable.otherHas k p t = true ↔ ∃ e ∈ t, e.1 ≠ k ∧ p e.1 e.2 = true := by
  simp [SlotTable.otherHas, bne_iff_ne]

theorem SlotTable.not_otherHas_iff (p : Nat → α → Bool) (t : SlotTable α) :
    SlotTable.otherHas k p t = false ↔ ∀ e ∈ t, e.1 ≠ k → p e.1 e.2 = false := by
  rw [← Bool.not_eq_true, SlotTable.otherHas_iff]
  simp

/-- What holds of every entry and of the one written holds of every entry after. -/
theorem SlotTable.forall_write {t : SlotTable α} {o : Option α} {p : α → Prop} (ht : ∀ e ∈ t, p e.2)
    (ho : ∀ e, o = some e → p e) : ∀ e ∈ SlotTable.write k o t, p e.2 := by
  intro e he
  obtain he | ⟨_, he⟩ := SlotTable.mem_write k o t e he
  · exact ht e he
  · exact ho _ he

end

/-! ## A write into a bank -/

section
variable {b : Bank} (h : b.TablesLegal) {k : Nat}
include h

theorem Bank.TablesLegal.written : b.written.TablesLegal := h.of_entries rfl

theorem Bank.TablesLegal.writePrefix (hk : k < 512) (o : Option PrefixEntry)
    (ho : ∀ e, o = some e → e.InRange ∧ SlotTable.otherHas k (fun _ f => f.digits == e.digits) b.prefixes = false) :
    ({ b with prefixes := SlotTable.write k o b.prefixes } : Bank).TablesLegal := by
  obtain ⟨⟨hwf, hbands, hcalendar⟩, hprefix, hband, hslot, hdigits, hminutes⟩ := h
  refine ⟨⟨SlotTable.wf_write _ _ _ _ hwf hk, hbands, hcalendar⟩,
    SlotTable.forall_write k hprefix fun e he => (ho e he).1, hband, hslot, ?_, hminutes⟩
  refine SlotTable.nodup_keys_write k _ o ((SlotTable.wf_iff _ _).1 hwf).1 hdigits fun e he p hp hpk => ?_
  simpa using (SlotTable.not_otherHas_iff k _ _).1 (ho e he).2 p hp hpk

theorem Bank.TablesLegal.writeBand (hk : k < 64) (o : Option BandEntry) (ho : ∀ e, o = some e → e.InRange) :
    ({ b with bands := SlotTable.write k o b.bands } : Bank).TablesLegal := by
  obtain ⟨⟨hprefixes, hwf, hcalendar⟩, hprefix, hband, hslot, hdigits, hminutes⟩ := h
  exact ⟨⟨hprefixes, SlotTable.wf_write _ _ _ _ hwf hk, hcalendar⟩, hprefix, SlotTable.forall_write k hband ho, hslot,
    hdigits, hminutes⟩

theorem Bank.TablesLegal.writeCalendar (hk : k < 24) (o : Option CalendarSlot)
    (ho : ∀ e, o = some e → e.InRange ∧
      SlotTable.otherHas k (fun j f => j / 8 == k / 8 && f.minute == e.minute) b.calendar = false) :
    ({ b with calendar := SlotTable.write k o b.calendar } : Bank).TablesLegal := by
  obtain ⟨⟨hprefixes, hbands, hwf⟩, hprefix, hband, hslot, hdigits, hminutes⟩ := h
  refine ⟨⟨hprefixes, hbands, SlotTable.wf_write _ _ _ _ hwf hk⟩, hprefix, hband,
    SlotTable.forall_write k hslot fun e he => (ho e he).1, hdigits, ?_⟩
  refine SlotTable.nodup_keys_write k _ o ((SlotTable.wf_iff _ _).1 hwf).1 hminutes fun e he p hp hpk => ?_
  simpa using (SlotTable.not_otherHas_iff k _ _).1 (ho e he).2 p hp hpk

end

/-! ## The slot at the pointer -/

section
variable {s : State}

/-- R179: the slots that the pages of each table address. -/
theorem State.slotAtPointer_lt (h : s.mu.Inside) : s.slotAtPointer <
    match s.mu.selector with
    | .hot _ => 2048
    | .batch => 64
    | .prefixes _ _ => 512
    | .bands _ => 64
    | .calendar _ => 24
    | .autobar => 32 := by
  unfold Management.Inside at h
  unfold State.slotAtPointer
  cases hsel : s.mu.selector <;> simp only [hsel, Selector.offsets, Selector.slot] at h ⊢ <;> omega

/-- R181: the block that owns the page's table judges the entry. -/
theorem State.writeEntry_hot {page : Fin 32} (hsel : s.mu.selector = .hot page) (bytes : List Byte) :
    s.writeEntry bytes = s.writeHot s.slotAtPointer (readHot bytes) := by
  simp only [State.writeEntry, State.slotAtPointer, hsel]

theorem State.writeEntry_batch (hsel : s.mu.selector = .batch) (bytes : List Byte) :
    s.writeEntry bytes = s.writeBatch s.slotAtPointer (readBatch bytes) := by
  simp only [State.writeEntry, State.slotAtPointer, hsel]

theorem State.writeEntry_prefixes {x : BankId} {page : Fin 8} (hsel : s.mu.selector = .prefixes x page) (bytes : List Byte) :
    s.writeEntry bytes = s.writeBank x (readPrefix bytes)
      (fun b e => SlotTable.otherHas s.slotAtPointer (fun _ f => f.digits == e.digits) b.prefixes)
      (fun o b => { b with prefixes := SlotTable.write s.slotAtPointer o b.prefixes }) := by
  simp only [State.writeEntry, State.slotAtPointer, hsel]

theorem State.writeEntry_bands {x : BankId} (hsel : s.mu.selector = .bands x) (bytes : List Byte) :
    s.writeEntry bytes = s.writeBank x (readBand bytes) (fun _ _ => false)
      (fun o b => { b with bands := SlotTable.write s.slotAtPointer o b.bands }) := by
  simp only [State.writeEntry, State.slotAtPointer, hsel]

theorem State.writeEntry_calendar {x : BankId} (hsel : s.mu.selector = .calendar x) (bytes : List Byte) :
    s.writeEntry bytes = s.writeBank x (readCalendar bytes)
      (fun b e => SlotTable.otherHas s.slotAtPointer (fun j f => j / 8 == s.slotAtPointer / 8 && f.minute == e.minute)
        b.calendar)
      (fun o b => { b with calendar := SlotTable.write s.slotAtPointer o b.calendar }) := by
  simp only [State.writeEntry, State.slotAtPointer, hsel]

theorem State.writeEntry_autobar (hsel : s.mu.selector = .autobar) (bytes : List Byte) :
    s.writeEntry bytes = (.range, s) := by
  simp only [State.writeEntry, hsel]

end

/-! ## The moves of a write -/

section
variable {s t : State} (h : s.Moves t)
include h

theorem State.Moves.writeHot {page : Fin 32} (hsel : t.mu.selector = .hot page) (bytes : List Byte) :
    s.Moves (t.writeHot t.slotAtPointer (readHot bytes)).2 := by
  unfold State.writeHot
  dsimp only
  split
  next => exact h
  next => exact h.move (.hot page none hsel nofun)
  next r hread =>
    split
    next => exact h
    next horder =>
      obtain ⟨hcode, _⟩ := (readHot_eq_content_iff bytes r).1 hread
      have hput := h.putHot page r hsel ⟨hcode, BitVec.not_lt.1 horder⟩
      simpa only [State.withLists] using hput

theorem State.Moves.writeBatch (hsel : t.mu.selector = .batch) (bytes : List Byte) :
    s.Moves (t.writeBatch t.slotAtPointer (readBatch bytes)).2 := by
  unfold State.writeBatch
  dsimp only
  split
  next => exact h
  next => exact h.move (.batch none hsel nofun)
  next e hread =>
    split
    next => exact h
    next hother =>
      refine h.move (.batch (some e) hsel fun f hf => ?_)
      cases hf
      exact ⟨((readBatch_eq_content_iff bytes e).1 hread).1, Bool.not_eq_true _ ▸ hother⟩

/-- R104: what is stored of an entry that is empty, or is content and no duplicate. -/
theorem State.Moves.writeBank {α : Type} (x : BankId) (e : EntryRead α) (repeats : Bank → α → Bool)
    (store : Option α → Bank → Bank)
    (hstore : ∀ o, (∀ v, o = some v → e = .content v ∧ repeats (t.bank x) v = false) → t.mu.Inside →
      (t.bank x).TablesLegal → (store o (t.bank x)).TablesLegal) : s.Moves (t.writeBank x e repeats store).2 := by
  unfold State.writeBank
  dsimp only
  split
  next => exact h
  next =>
    split
    next => exact h
    next => exact h.move (.bank x _ fun hin hlegal => (hstore none nofun hin hlegal).written)
    next v =>
      split
      next => exact h
      next hrepeats =>
        refine h.move (.bank x _ fun hin hlegal => (hstore (some v) (fun w hw => ?_) hin hlegal).written)
        cases hw
        exact ⟨rfl, Bool.not_eq_true _ ▸ hrepeats⟩

/-- R181: one entry written. -/
theorem State.Moves.writeEntry (bytes : List Byte) : s.Moves (t.writeEntry bytes).2 := by
  have hslot := t.slotAtPointer_lt
  cases hsel : t.mu.selector with
  | hot page => rw [State.writeEntry_hot hsel]; exact h.writeHot hsel bytes
  | batch => rw [State.writeEntry_batch hsel]; exact h.writeBatch hsel bytes
  | prefixes x page =>
    rw [State.writeEntry_prefixes hsel]
    refine h.writeBank x _ _ _ fun o ho hin hlegal => hlegal.writePrefix (by simpa [hsel] using hslot hin) o fun e he => ?_
    obtain ⟨hread, hother⟩ := ho e he
    exact ⟨((readPrefix_eq_content_iff bytes e).1 hread).1, hother⟩
  | bands x =>
    rw [State.writeEntry_bands hsel]
    refine h.writeBank x _ _ _ fun o ho hin hlegal => hlegal.writeBand (by simpa [hsel] using hslot hin) o fun e he => ?_
    exact ((readBand_eq_content_iff bytes e).1 (ho e he).1).1
  | calendar x =>
    rw [State.writeEntry_calendar hsel]
    refine h.writeBank x _ _ _ fun o ho hin hlegal => hlegal.writeCalendar (by simpa [hsel] using hslot hin) o fun e he => ?_
    obtain ⟨hread, hother⟩ := ho e he
    exact ⟨((readCalendar_eq_content_iff bytes e).1 hread).1, hother⟩
  | autobar => rw [State.writeEntry_autobar hsel]; exact h

/-- R180: the pointer stays inside its page. -/
theorem State.Moves.advancePointer : s.Moves t.advancePointer := by
  refine h.quiet (.of_calm ⟨fun _ => ?_, fun _ => rfl, id, id, id⟩ rfl rfl)
  have hpos : 0 < t.mu.selector.offsets := by cases t.mu.selector <;> simp [Selector.offsets]
  show (if t.mu.pointer + 1 < t.mu.selector.offsets then _ else _) < t.mu.selector.offsets
  split
  next hlt => exact hlt
  next => exact hpos

theorem State.Moves.writeAll (es : List (List Byte)) (n : Nat) : s.Moves (t.writeAll es n).state := by
  induction es generalizing t n with
  | nil => exact h
  | cons e es ih =>
    have hone := h.writeEntry e
    unfold State.writeAll
    split
    next u heq => rw [heq] at hone; exact ih hone.advancePointer (n + 1)
    next st u _ heq => rw [heq] at hone; exact hone

theorem State.Moves.readAll (n : Nat) : s.Moves (t.readAll n).2 := by
  induction n generalizing t with
  | zero => exact h
  | succ n ih => exact ih h.advancePointer

end

end Sys2Proof.Machine

/-! # The card table (03): every command but the admission of a card is a sequence of moves -/

namespace Sys2Proof.Machine

/-! ## Management requests -/

section
variable {s t : State} (h : s.Moves t) (data : List Byte)
include h

theorem State.Moves.selectPage : s.Moves (Machine.selectPage data t).state := by
  unfold Machine.selectPage
  split
  next =>
    split
    next sel _ =>
      refine h.quiet (.of_calm ⟨fun _ => ?_, fun _ => rfl, id, id, id⟩ rfl rfl)
      cases sel <;> simp [Management.Inside, Selector.offsets]
    next => exact h
  next => exact h

theorem State.Moves.writeEntries : s.Moves (Machine.writeEntries data t).state := by
  unfold Machine.writeEntries
  split
  next => exact h
  next =>
    split_ifs
    · exact h
    · exact h.writeAll _ 0
    · exact h

theorem State.Moves.readEntries : s.Moves (Machine.readEntries data t).state := by
  unfold Machine.readEntries
  split
  next =>
    split
    next => exact h.readAll _
    next => exact h
  next => exact h

theorem State.Moves.activate (x : BankId) : s.Moves (t.activate x).2 := by
  unfold State.activate
  split
  next => exact h
  next => exact h
  next => exact h
  next =>
    split
    next =>
      have hactive := h.quiet (t.quiet_setBank x { t.bank x with state := .active } rfl)
      exact hactive.quiet (State.quiet_setBank _ x.other (t.bank x.other).replaced (by rw [State.setBank_other]; rfl))
    next => exact h

theorem State.Moves.activateBank : s.Moves (Machine.activateBank data t).state := by
  unfold Machine.activateBank
  split
  next =>
    split
    next => exact h.activate _
    next => exact h
  next => exact h

theorem State.Moves.setService : s.Moves (Machine.setService data t).state := by
  unfold Machine.setService
  split
  next =>
    split
    next => exact h
    next v _ =>
      split_ifs
      · exact h
      · exact h
      · exact (h.quiet (.of_calm (t := { t with mu := { t.mu with service := v } }) ⟨id, fun _ => rfl, id, id, id⟩ rfl
          rfl)).offerRow _
  next => exact h

theorem State.Moves.setStation : s.Moves (Machine.setStation data t).state := by
  unfold Machine.setStation
  split
  next =>
    split
    next =>
      split
      next => exact (h.setMode _ _ _).refreshAttn
      next => exact h
    next => exact h
  next => exact h

theorem State.Moves.readStation : s.Moves (Machine.readStation data t).state := by
  unfold Machine.readStation
  split
  next => split <;> exact h
  next => exact h

theorem State.Moves.readStatus : s.Moves (Machine.readStatus data t).state := by
  unfold Machine.readStatus
  split <;> exact h

theorem State.Moves.fetchRecord : s.Moves (Machine.fetchRecord data t).state := by
  unfold Machine.fetchRecord
  split
  next =>
    split
    next => exact h
    next => split <;> exact h
  next => exact h

theorem State.Moves.releaseRecords : s.Moves (Machine.releaseRecords data t).state := by
  unfold Machine.releaseRecords
  split
  next => exact (h.quiet (t.quiet_rq _ fun hn => RecordQueue.numbered_release hn _)).refreshAttn
  next => exact h

theorem State.Moves.removeAutobar : s.Moves (Machine.removeAutobar data t).state := by
  unfold Machine.removeAutobar
  split
  next a b c d =>
    split
    next =>
      exact (h.move (.unbar (a ++ b ++ c ++ d))).changeRecord (a ++ b ++ c ++ d) _
        (fun r => r.follows_strikes (Nat.zero_le _)) fun _ _ => id
    next => exact h
  next => exact h

end

/-! ## Line restart -/

/-- R28: one station's restart stores its call and changes no other block that matters here. -/
theorem State.calm_restartStation (s : State) (i : StationId) :
    s.Calm (s.restartStation i) ∧ (s.restartStation i).ct = s.ct := by
  have hstored : s.Quiet (s.storeRestart i) := by
    unfold State.storeRestart
    split
    next x _ _ => exact (s.quiet_storeRecord i _).trans (State.quiet_unpinBank _ _)
    next => exact .refl s
  exact ⟨hstored.toCalm.trans (.of_frame rfl (fun _ => rfl) rfl rfl rfl), hstored.ct⟩

theorem State.storeRestart_station (s : State) (i j : StationId) : (s.storeRestart i).station j = s.station j := by
  unfold State.storeRestart
  split <;> rfl

/-- R28: a restarted station names no card and is not READY. -/
def StationRecord.Emptied (r : StationRecord) : Prop := r.card = none ∧ r.state ≠ .ready

theorem StationRecord.emptied_restarted (r : StationRecord) : r.restarted.Emptied := by
  refine ⟨rfl, ?_⟩
  unfold StationRecord.restarted
  dsimp only
  split <;> simp

theorem State.restartStation_emptied (s : State) (i : StationId) : ((s.restartStation i).station i).Emptied := by
  rw [State.restartStation, State.mapStation_same]
  exact StationRecord.emptied_restarted _

theorem State.restartStation_keeps_emptied (s : State) (i j : StationId) (h : (s.station i).Emptied) :
    ((s.restartStation j).station i).Emptied := by
  by_cases hij : i = j
  · subst hij; exact s.restartStation_emptied i
  · rwa [State.restartStation, State.mapStation_other _ _ _ _ hij, State.storeRestart_station]

section
variable {s t : State} (h : s.Moves t)
include h

/-- R188. -/
theorem State.Moves.restartLine : s.Moves t.restartLine := by
  obtain ⟨hcalm, hct⟩ := List.foldlRecOn (motive := fun u : State => t.Calm u ∧ u.ct = t.ct) stationIds State.restartStation
    ⟨(State.Quiet.refl t).toCalm, rfl⟩ fun u ⟨hcalm, hct⟩ i _ =>
      ⟨hcalm.trans (u.calm_restartStation i).1, (u.calm_restartStation i).2.trans hct⟩
  have hemptied := foldl_stationIds_establishes (P := fun u i => (u.station i).Emptied) (f := State.restartStation)
    State.restartStation_emptied State.restartStation_keeps_emptied t
  unfold State.restartLine
  generalize stationIds.foldl State.restartStation t = u at hcalm hct hemptied
  exact h.move (.restart (hcalm.trans (.of_frame rfl (fun _ => rfl) rfl rfl rfl)) (by rw [← hct]) hemptied)

theorem State.Moves.restartLine_request (data : List Byte) : s.Moves (Machine.restartLine data t).state := by
  unfold Machine.restartLine
  split
  next => exact h.restartLine.refreshAttn
  next => exact h

end

/-! ## Taking from the inbound queues -/

section
variable {s t u : State}

theorem State.takeRow_eq_some {f : RowInFrame} (h : t.takeRow = some (f, u)) :
    ∃ rest, t.rlc.inbound = f :: rest ∧ u = t.rowTaken rest := by
  unfold State.takeRow at h
  split at h
  next => cases h
  next rest heq => cases h; exact ⟨rest, heq, rfl⟩

theorem State.takeLink_eq_some {m : LinkInMsg} (h : t.takeLink = some (m, u)) :
    ∃ rest, t.xlc.inbound = m :: rest ∧ u = t.linkTaken rest := by
  unfold State.takeLink at h
  split at h
  next => cases h
  next rest heq => cases h; exact ⟨rest, heq, rfl⟩

theorem State.quiet_takeRow {f : RowInFrame} (h : t.takeRow = some (f, u)) : t.Quiet u := by
  obtain ⟨rest, _, rfl⟩ := State.takeRow_eq_some h
  exact t.quiet_rlc _

theorem State.Moves.takeRow (hm : s.Moves t) {f : RowInFrame} (h : t.takeRow = some (f, u)) : s.Moves u :=
  hm.quiet (State.quiet_takeRow h)

theorem State.Moves.takeLink (hm : s.Moves t) {m : LinkInMsg} (h : t.takeLink = some (m, u)) : s.Moves u := by
  obtain ⟨rest, _, rfl⟩ := State.takeLink_eq_some h
  exact hm.quiet (t.quiet_xlc _)

/-- R177: a request and its reply. -/
theorem State.Moves.runRequest (hm : s.Moves t) (name : Byte) {handle : List Byte → State → Answer}
    (hhandle : ∀ {v : State}, s.Moves v → ∀ data, s.Moves (handle data v).state) : s.Moves (t.runRequest name handle) := by
  unfold State.runRequest
  split
  next _ _ _ htake =>
    split
    next => exact (hhandle (hm.takeLink htake) _).offerLink _
    next => exact hm
  next => exact hm

theorem State.Moves.runUnknown (hm : s.Moves t) : s.Moves t.runUnknown := by
  unfold State.runUnknown
  split
  next _ _ _ htake =>
    split
    next => exact hm
    next => exact (hm.takeLink htake).offerLink _
  next => exact hm

end

/-! ## The exchange link -/

section
variable {s t : State} (h : s.Moves t)
include h

theorem State.Moves.rlc (r : RowLine) : s.Moves { t with rlc := r } := h.quiet (t.quiet_rlc r)

theorem State.Moves.xlc (x : ExchangeLink) : s.Moves { t with xlc := x } := h.quiet (t.quiet_xlc x)

theorem State.Moves.takeCallAnswered : s.Moves t.takeCallAnswered := by
  unfold State.takeCallAnswered
  split
  next htake => exact ((h.takeLink htake).answerCall _).refreshAttn
  next => exact h

theorem State.Moves.exchangeClears (i : StationId) (x : Byte) : s.Moves (t.exchangeClears i x) := by
  unfold State.exchangeClears
  split
  next => exact h.exchangeClear i x
  next => exact h.exchangeClear i x
  next => exact h.releaseCall i
  all_goals exact h.offerLink _

theorem State.Moves.takeCallClear : s.Moves t.takeCallClear := by
  unfold State.takeCallClear
  split
  next htake => exact ((h.takeLink htake).exchangeClears _ _).refreshAttn
  next => exact h

theorem State.Moves.takeCallReleased : s.Moves t.takeCallReleased := by
  unfold State.takeCallReleased
  split
  next i u htake =>
    refine State.Moves.refreshAttn ?_
    unfold State.exchangeReleases
    split
    next => exact (h.takeLink htake).releaseCall _
    next => exact h.takeLink htake
  next => exact h

theorem State.Moves.takeClock : s.Moves t.takeClock := by
  unfold State.takeClock
  split
  next f u htake =>
    exact ((h.takeLink htake).quiet (u.quiet_tb _ fun hlegal => TimeBase.legal_accept hlegal f)).refreshAttn
  next => exact h

/-! ## The row line -/

theorem State.Moves.headDelivered (f : RowOutFrame) : s.Moves (t.headDelivered f) := by
  unfold State.headDelivered
  dsimp only
  split
  next => exact (h.rlc _).burnDelivered _ _
  next => exact h.rlc _

theorem State.Moves.headUndelivered (f : RowOutFrame) : s.Moves (t.headUndelivered f) := by
  unfold State.headUndelivered
  dsimp only
  split
  next => exact (h.rlc _).burnUndelivered _ _
  next => exact h.rlc _

theorem State.Moves.transmissionFailed (f : RowOutFrame) : s.Moves (t.transmissionFailed f) := by
  unfold State.transmissionFailed
  split
  next => exact h.rlc _
  next => exact h.headUndelivered f

theorem State.Moves.lineFree : s.Moves t.lineFree := by
  unfold State.lineFree
  split
  next => exact h.rlc _
  next => exact h

theorem State.Moves.retryDue : s.Moves t.retryDue := by
  unfold State.retryDue
  split
  next => exact h.rlc _
  next => exact h

theorem State.Moves.spoiled : s.Moves t.spoiled := by
  unfold State.spoiled
  split
  next => exact (h.transmissionFailed _).refreshAttn
  next => exact h

theorem State.Moves.slotEnds (heard : Option Byte) : s.Moves (t.slotEnds heard) := by
  unfold State.slotEnds
  split
  next => exact h
  next =>
    split
    next => exact h
    next =>
      split
      next => exact (h.headDelivered _).refreshAttn
      next => exact (h.headUndelivered _).refreshAttn
      next => exact (h.transmissionFailed _).refreshAttn
      next => exact (h.transmissionFailed _).refreshAttn

theorem State.Moves.broadcastEnds : s.Moves t.broadcastEnds := by
  unfold State.broadcastEnds
  split
  next => exact h
  next =>
    split
    next => exact h.headDelivered _
    next => exact h

/-! ## Station frames taken -/

theorem State.Moves.cardOut (i : StationId) : s.Moves (t.cardOut i) := by
  unfold State.cardOut
  split
  next => exact h.removeCard_mapStation i _ rfl (by simp)
  next hstate _ => exact (h.removeCard i (by simp [hstate])).startClear i _
  next hstate _ => exact (h.removeCard i (by simp [hstate])).startClear i _
  next hstate _ => exact h.removeCard i (by simp [hstate])
  next => exact h

theorem State.Moves.takeCardOut : s.Moves t.takeCardOut := by
  unfold State.takeCardOut
  split
  next htake => exact (h.takeRow htake).cardOut _
  next => exact h

theorem State.Moves.takeNumber : s.Moves t.takeNumber := by
  unfold State.takeNumber
  split
  next htake => exact (h.takeRow htake).judgeNumber _ _
  next => exact h

theorem State.Moves.takeHookOn : s.Moves t.takeHookOn := by
  unfold State.takeHookOn
  split
  next htake =>
    split
    next => exact (h.takeRow htake).startClear _ _
    next => exact h.takeRow htake
  next => exact h

theorem State.Moves.takeBurnReport : s.Moves t.takeBurnReport := by
  unfold State.takeBurnReport
  split
  next htake => exact ((h.takeRow htake).takeReport _ _ _ _).refreshAttn
  next => exact h

/-! ## Timers -/

theorem State.Moves.answerExpires (i : StationId) : s.Moves (t.answerExpires i) := by
  unfold State.answerExpires
  split
  next => exact h.startClear i _
  next => exact h

theorem State.Moves.releaseExpires (i : StationId) : s.Moves (t.releaseExpires i) := by
  unfold State.releaseExpires
  split
  next => exact (h.releaseCall i).refreshAttn
  next => exact h

theorem State.Moves.headExpires (i : StationId) : s.Moves (t.headExpires i) := by
  unfold State.headExpires
  split
  next => exact (h.headExpired i _).refreshAttn
  next => exact h

theorem State.Moves.replyExpires (i : StationId) : s.Moves (t.replyExpires i) := by
  unfold State.replyExpires
  split
  next =>
    split
    next => exact (h.takeOutcome i _ _).refreshAttn
    next => exact h
  next => exact h

theorem State.Moves.rememberExpires (x : Serial) : s.Moves (t.rememberExpires x) := by
  unfold State.rememberExpires
  split
  next r hfind =>
    obtain ⟨hmem, hserial⟩ := CardTable.find_some hfind
    split
    next hstate => exact h.move (.forget x ⟨r, hmem, hserial, by simp [CardRecord.isRemembered, hstate]⟩)
    next => exact h
  next => exact h

theorem State.Moves.silenceExpires : s.Moves t.silenceExpires := by
  unfold State.silenceExpires
  split
  next =>
    exact State.Moves.refreshAttn (State.Moves.foldl (h.xlc t.xlc.goDown) (fun hu i => hu.linkDownStation i) stationIds)
  next => exact h

theorem State.Moves.untrustExpires : s.Moves t.untrustExpires := by
  unfold State.untrustExpires
  split
  next => exact (h.quiet (t.quiet_tb _ TimeBase.legal_untrusted)).refreshAttn
  next => exact h

/-! ## Power -/

theorem State.Moves.atPowerUp (pins : Pins) (q : RecordQueue) (hq : t.rq.Numbered → q.Numbered) :
    s.Moves (t.atPowerUp pins q) := h.move (.power pins q hq)

theorem State.Moves.powerUp : s.Moves t.powerUp := (h.atPowerUp _ _ RecordQueue.numbered_judged).refreshAttn

theorem State.Moves.holdReset : s.Moves t.holdReset := by
  unfold State.holdReset
  split
  next => exact h.atPowerUp _ _ RecordQueue.numbered_unpowered
  next => exact h.quiet (.of_frame rfl rfl rfl (fun _ => rfl) rfl rfl rfl)

theorem State.Moves.losePower : s.Moves t.losePower := by
  unfold State.losePower
  split
  next =>
    have hlost := h.atPowerUp { supply := false, reset := t.pins.reset, attn := Config.attnUnpowered t.free }
      t.rq.unpowered RecordQueue.numbered_unpowered
    exact hlost.quiet (.of_frame rfl rfl rfl (fun _ => rfl) rfl rfl rfl)
  next => exact h

theorem State.Moves.loseVbak : s.Moves t.loseVbak := by
  unfold State.loseVbak
  split
  next => exact h
  next => exact h.quiet (t.quiet_rq _ id)

end

/-! ## A card judged -/

/-- A card is admitted: it has passed every check, and nothing has changed before. -/
def State.Admits (s t : State) : Prop :=
  ∃ (u : State) (i : StationId) (x : Serial) (batch units : Nat),
    s.Quiet u ∧ u.cardCheck i x batch units = none ∧ t = u.acceptCard i x batch units

/-- R64 check 6 comes before checks 7 and 8. -/
theorem State.barCode_of_strikes {s : State} {i : StationId} {x : Serial} {batch units : Nat} {r : CardRefusal}
    (h : s.cardCheck i x batch units = some r) (hr : r.strikes = true) : s.ct.barCode x = none := by
  cases hbar : s.ct.barCode x with
  | none => rfl
  | some c =>
    simp only [State.cardCheck, hbar] at h
    repeat' split at h
    all_goals
      cases h
      cases hr

/-- R68: a serial without a bar is in no hot-list range and not in the auto-bar list. -/
theorem CardTable.barCode_eq_none_iff (t : CardTable) (x : Serial) :
    t.barCode x = none ↔ (∀ e ∈ t.hot, e.2.covers x = false) ∧ x ∉ t.autobar := by
  unfold CardTable.barCode
  split
  next h hfind =>
    obtain ⟨hmem, hcovers⟩ := And.intro (List.mem_of_find?_eq_some hfind) (List.find?_some hfind)
    obtain ⟨e, he, rfl⟩ := List.mem_map.1 hmem
    exact ⟨nofun, fun ⟨hno, _⟩ => by rw [hno e he] at hcovers; cases hcovers⟩
  next hfind =>
    have hno : ∀ e ∈ t.hot, e.2.covers x = false := fun e he => by
      simpa using List.find?_eq_none.1 hfind e.2 (List.mem_map_of_mem he)
    simp only [List.contains_iff_mem, ite_eq_right_iff, reduceCtorEq, imp_false]
    exact ⟨fun hx => ⟨hno, hx⟩, fun hx => hx.2⟩

/-- R64: a CARD_IN refused is a sequence of moves. -/
theorem State.takeCardIn_cases (s : State) : s.Moves s.takeCardIn ∨ s.Admits s.takeCardIn := by
  unfold State.takeCardIn
  split
  next i x batch units u htake =>
    have hquiet := State.quiet_takeRow htake
    have hmoves := (State.Moves.refl s).quiet hquiet
    unfold State.judgeCard
    split
    next hcheck => exact .inr ⟨u, i, x, batch, units, hquiet, hcheck, rfl⟩
    next r hcheck =>
      refine .inl (State.Moves.tellCard ?_ i _)
      split
      next hstrikes =>
        exact hmoves.countStrike x ((u.ct.barCode_eq_none_iff x).1 (State.barCode_of_strikes hcheck hstrikes)).2
      next => exact hmoves
  next => exact .inl (.refl s)

/-! ## Every command -/

section
variable {s t : State}

theorem moves_of_whenRunning {f : State → State} (hf : ∀ {u}, s.Moves u → s.Moves (f u))
    (h : whenRunning f s = .next t) : s.Moves t := by
  rw [whenRunning_next f s t h]
  split
  next => exact hf (.refl s)
  next => exact .refl s

/-- Every command but CARD_IN is a sequence of moves. -/
theorem exec_moves {c : Instr} (hc : c ≠ .cardIn) (h : exec c s = .next t) : s.Moves t := by
  cases c with
  | powerUp => cases h; exact (State.Moves.refl s).powerUp
  | resetAsserted => cases h; exact (State.Moves.refl s).holdReset
  | powerLoss => cases h; exact (State.Moves.refl s).losePower
  | vbakLost => cases h; exact (State.Moves.refl s).loseVbak
  | rowFrameReceived bytes => exact moves_of_whenRunning (f := State.rowReceived bytes) (fun hu => hu.rlc _) h
  | cardIn => exact (hc rfl).elim
  | cardOut => exact moves_of_whenRunning .takeCardOut h
  | number => exact moves_of_whenRunning .takeNumber h
  | hookOn => exact moves_of_whenRunning .takeHookOn h
  | burnReport => exact moves_of_whenRunning .takeBurnReport h
  | lineFree => exact moves_of_whenRunning .lineFree h
  | retry => exact moves_of_whenRunning .retryDue h
  | spoiledTransmission => exact moves_of_whenRunning .spoiled h
  | acknowledgeSlot heard => exact moves_of_whenRunning (fun hu => hu.slotEnds heard) h
  | broadcastSent => exact moves_of_whenRunning .broadcastEnds h
  | linkFrameReceived bytes => exact moves_of_whenRunning (f := State.linkReceived bytes) (fun hu => (hu.xlc _).refreshAttn) h
  | callAnswered => exact moves_of_whenRunning .takeCallAnswered h
  | callClear => exact moves_of_whenRunning .takeCallClear h
  | callReleased => exact moves_of_whenRunning .takeCallReleased h
  | clock => exact moves_of_whenRunning .takeClock h
  | linkFrameSent => exact moves_of_whenRunning (f := State.linkSent) (fun hu => hu.xlc _) h
  | selectPage => exact moves_of_whenRunning (fun hu => hu.runRequest _ .selectPage) h
  | writeEntries => exact moves_of_whenRunning (fun hu => hu.runRequest _ .writeEntries) h
  | readEntries => exact moves_of_whenRunning (fun hu => hu.runRequest _ .readEntries) h
  | activateBank => exact moves_of_whenRunning (fun hu => hu.runRequest _ .activateBank) h
  | setService => exact moves_of_whenRunning (fun hu => hu.runRequest _ .setService) h
  | setStation => exact moves_of_whenRunning (fun hu => hu.runRequest _ .setStation) h
  | readStation => exact moves_of_whenRunning (fun hu => hu.runRequest _ .readStation) h
  | readStatus => exact moves_of_whenRunning (fun hu => hu.runRequest _ .readStatus) h
  | fetchRecord => exact moves_of_whenRunning (fun hu => hu.runRequest _ .fetchRecord) h
  | releaseRecords => exact moves_of_whenRunning (fun hu => hu.runRequest _ .releaseRecords) h
  | removeAutobar => exact moves_of_whenRunning (fun hu => hu.runRequest _ .removeAutobar) h
  | restartLine => exact moves_of_whenRunning (fun hu => hu.runRequest _ .restartLine_request) h
  | mgmtRequestUnknown => exact moves_of_whenRunning .runUnknown h
  | answerTimerExpiry i => exact moves_of_whenRunning (fun hu => hu.answerExpires i) h
  | releaseTimerExpiry i => exact moves_of_whenRunning (fun hu => hu.releaseExpires i) h
  | headIntervalExpiry i => exact moves_of_whenRunning (fun hu => hu.headExpires i) h
  | replyTimerExpiry i => exact moves_of_whenRunning (fun hu => hu.replyExpires i) h
  | rememberTimerExpiry x => exact moves_of_whenRunning (fun hu => hu.rememberExpires x) h
  | silenceTimerExpiry => exact moves_of_whenRunning .silenceExpires h
  | untrustTimerExpiry => exact moves_of_whenRunning .untrustExpires h
  | timeOfDayTick => exact moves_of_whenRunning .tick h

/-- Every command is a sequence of moves, or the admission of a card. -/
theorem exec_cases {c : Instr} (h : exec c s = .next t) : s.Moves t ∨ s.Admits t := by
  by_cases hc : c = .cardIn
  · subst hc
    rw [whenRunning_next State.takeCardIn s t h]
    split
    next => exact s.takeCardIn_cases
    next => exact .inl (.refl s)
  · exact .inl (exec_moves hc h)

/-- What every move and the admission of a card keep, every step keeps. -/
theorem kept_of_move {p : State → Prop} (hmove : ∀ {s t : State}, s.Move t → p s → p t)
    (haccept : ∀ {s : State} {i : StationId} {x : Serial} {batch units : Nat}, s.cardCheck i x batch units = none → p s →
      p (s.acceptCard i x batch units)) : Kept p := by
  have hmoves : ∀ {s t : State}, s.Moves t → p s → p t := fun h hs =>
    Relation.ReflTransGen.recOn (motive := fun u _ => p u) h hs fun _ hmv hu => hmove hmv hu
  intro s t hs hstep
  unfold step at hstep
  split at hstep
  next => cases hstep; exact hs
  next c rest _ =>
    have hrest : s.Quiet { s with pending := rest } := .of_frame rfl rfl rfl (fun _ => rfl) rfl rfl rfl
    have hstart := hmove (.quiet hrest) hs
    obtain h | ⟨u, i, x, batch, units, hquiet, hcheck, rfl⟩ := exec_cases hstep
    · exact hmoves h hstart
    · exact haccept hcheck (hmove (.quiet hquiet) hstart)

end

end Sys2Proof.Machine

/-! # The card table (03): what every step keeps -/

namespace Sys2Proof.Machine

/-! ## Records with distinct serials -/

section
variable {cs : List CardRecord} (hnodup : (cs.map CardRecord.serial).Nodup)
include hnodup

theorem eq_of_serial_eq {r q : CardRecord} (hr : r ∈ cs) (hq : q ∈ cs) (h : r.serial = q.serial) : r = q :=
  List.inj_on_of_nodup_map hnodup hr hq h

/-- The record of a serial is the one that is found. -/
theorem find?_serial_of_mem {r : CardRecord} (hr : r ∈ cs) : (cs.find? fun q => q.serial == r.serial) = some r := by
  cases hfind : cs.find? fun q => q.serial == r.serial with
  | none => exact absurd (List.find?_eq_none.1 hfind r hr) (by simp)
  | some q =>
    have hserial : q.serial = r.serial := by simpa using List.find?_some hfind
    rw [eq_of_serial_eq hnodup (List.mem_of_find?_eq_some hfind) hr hserial]

/-- A record in place of those of its serial. -/
theorem nodup_serials_append {base : List CardRecord} {q : CardRecord} (hsub : base.Sublist cs)
    (hq : ∀ r ∈ base, r.serial ≠ q.serial) : ((base ++ [q]).map CardRecord.serial).Nodup := by
  rw [List.map_append, List.map_singleton, List.nodup_append]
  refine ⟨hnodup.sublist (hsub.map _), List.nodup_singleton _, ?_⟩
  intro a ha b hb
  obtain ⟨r, hr, rfl⟩ := List.mem_map.1 ha
  rw [List.mem_singleton.1 hb]
  exact hq r hr

end

theorem dropCard_sublist (x : Serial) (cs : List CardRecord) : (dropCard x cs).Sublist cs := List.filter_sublist

/-- A record in place of one of the same serial does not make the list longer. -/
theorem length_dropCard_append_le {x : Serial} {cs : List CardRecord} {r : CardRecord} (hr : r ∈ cs) (hx : r.serial = x)
    (q : CardRecord) : (dropCard x cs ++ [q]).length ≤ cs.length := by
  have hlt : (dropCard x cs).length < cs.length :=
    List.length_filter_lt_length_iff_exists.2 ⟨r, hr, by simp [hx]⟩
  simpa using hlt

/-! ## A card admitted -/

section
variable (s : State) (i : StationId) (x : Serial) (batch units : Nat)

/-- R64: the checks that an admitted card has passed. -/
theorem State.cardCheck_eq_none_iff : s.cardCheck i x batch units = none ↔
    (s.station i).state = .idle ∧ s.mu.service = .opened ∧
      (∃ e, s.ct.batchEntry batch = some e ∧ e.standing = .current ∧ units ≤ e.face) ∧ units ≠ 0 ∧
      s.ct.barCode x = none ∧ ∀ r, s.ct.find x = some r → r.isRemembered = true ∧ units ≤ r.confirmed := by
  constructor
  · intro h
    unfold State.cardCheck at h
    split at h
    next => cases h
    next =>
      split at h
      next => cases h
      next hidle =>
        split at h
        next => cases h
        next hservice =>
          have hopened : s.mu.service = .opened := by
            cases hs : s.mu.service
            · exact (hservice hs).elim
            · rfl
          split at h
          next => cases h
          next e hbatch =>
            split_ifs at h with hstanding hface hunits
            split at h
            next => cases h
            next hbar =>
              have hcurrent : e.standing = .current := by
                cases hs : e.standing
                · rfl
                · exact (hstanding hs).elim
              refine ⟨not_not.1 hidle, hopened, ⟨e, hbatch, hcurrent, Nat.le_of_not_lt hface⟩, hunits, hbar, ?_⟩
              intro r hfind
              rw [hfind] at h
              dsimp only at h
              split_ifs at h with hremembered hrose
              exact ⟨by simpa using hremembered, Nat.le_of_not_lt hrose⟩
  · rintro ⟨hidle, hservice, ⟨e, hbatch, hstanding, hface⟩, hunits, hbar, hfind⟩
    unfold State.cardCheck
    simp only [hidle, hservice, hbatch, hstanding, hunits, hbar, Nat.not_lt.2 hface, if_false, reduceCtorEq, ne_eq,
      not_true_eq_false]
    split
    next => rfl
    next r hr =>
      obtain ⟨hremembered, hconfirmed⟩ := hfind r hr
      simp [hremembered, Nat.not_lt.2 hconfirmed]

theorem State.acceptCard_ct :
    (s.acceptCard i x batch units).ct = { s.ct with cards := activateCard i x batch units s.ct.cards } := rfl

theorem State.acceptCard_station (j : StationId) : (s.acceptCard i x batch units).station j =
    if j = i then { s.station i with card := some x, state := .ready } else s.station j :=
  PerStation.get_set s.cc i j _

end

/-- R58: what eviction leaves. -/
theorem evictOldest_sublist : ∀ cs : List CardRecord, (evictOldest cs).Sublist cs
  | [] => .slnil
  | r :: rs => by
    unfold evictOldest
    split
    next => exact List.sublist_cons_self r rs
    next => exact (evictOldest_sublist rs).cons_cons r

theorem mem_evictOldest_of_active : ∀ {cs : List CardRecord} {r : CardRecord}, r ∈ cs → r.isRemembered = false →
    r ∈ evictOldest cs
  | q :: qs, r, hr, hactive => by
    unfold evictOldest
    obtain rfl | hr := List.mem_cons.1 hr
    · simp [hactive]
    · split
      next => exact hr
      next => exact List.mem_cons_of_mem q (mem_evictOldest_of_active hr hactive)

/-- R58: the record evicted is the first REMEMBERED one. -/
theorem evictOldest_append {r : CardRecord} (hr : r.isRemembered = true) (post : List CardRecord) :
    ∀ {pre : List CardRecord}, (∀ q ∈ pre, q.isRemembered = false) → evictOldest (pre ++ r :: post) = pre ++ post
  | [], _ => by simp [evictOldest, hr]
  | q :: pre, h => by
    obtain ⟨hq, hpre⟩ := List.forall_mem_cons.1 h
    simp [evictOldest, hq, evictOldest_append hr post hpre]

theorem length_evictOldest_lt {cs : List CardRecord} (h : ∃ r ∈ cs, r.isRemembered = true) :
    (evictOldest cs).length < cs.length := by
  refine lt_of_le_of_ne (evictOldest_sublist cs).length_le fun heq => ?_
  obtain ⟨r, pre, post, hpre, hr, rfl⟩ : ∃ r pre post, (∀ q ∈ pre, q.isRemembered = false) ∧ r.isRemembered = true ∧
      cs = pre ++ r :: post := by
    obtain ⟨r, hr, hrem⟩ := h
    obtain ⟨q, hfind⟩ := Option.isSome_iff_exists.1 (List.find?_isSome.2 ⟨r, hr, hrem⟩)
    obtain ⟨hq, pre, post, rfl, hpre⟩ := List.find?_eq_some_iff_append.1 hfind
    exact ⟨q, pre, post, fun p hp => by simpa using hpre p hp, hq, rfl⟩
  rw [evictOldest_append hr post hpre] at heq
  simp at heq

/-- R71: the records after an admission: what stays, and at the tail the admitted card's. -/
structure Admitted (i : StationId) (x : Serial) (batch units : Nat) (cs base : List CardRecord) (q : CardRecord) : Prop where
  eq : activateCard i x batch units cs = base ++ [q]
  sublist : base.Sublist cs
  others : ∀ r ∈ base, r.serial ≠ x
  kept : ∀ r ∈ cs, r.isRemembered = false → r.serial ≠ x → r ∈ base
  serial : q.serial = x
  state : q.state = .active i
  confirmed : q.confirmed = units
  inRange : (∀ r ∈ cs, r.InRange) → 1 ≤ batch ∧ batch ≤ 65535 → units ≤ 9999 → q.InRange

theorem activateCard_admitted (i : StationId) (x : Serial) (batch units : Nat) (cs : List CardRecord) :
    ∃ base q, Admitted i x batch units cs base q := by
  cases hfind : cs.find? fun r => r.serial == x with
  | some r =>
    have hmem := List.mem_of_find?_eq_some hfind
    have hserial : r.serial = x := by simpa using List.find?_some hfind
    refine ⟨dropCard x cs, { r with batch := batch, state := .active i, confirmed := units, uncertainLow := none }, ?_⟩
    exact {
      eq := by simp only [activateCard, hfind]
      sublist := dropCard_sublist x cs
      others := fun q hq => (mem_dropCard.1 hq).2
      kept := fun q hq _ hne => mem_dropCard.2 ⟨hq, hne⟩
      serial := hserial
      state := rfl
      confirmed := rfl
      inRange := fun hall hbatch hunits => ⟨hbatch, hunits, Nat.zero_le _, (hall r hmem).2.2.2⟩ }
  | none =>
    have hnone : ∀ r ∈ cs, r.serial ≠ x := fun r hr => by simpa using List.find?_eq_none.1 hfind r hr
    have hsub : (if cs.length < cardTableRoom then cs else evictOldest cs).Sublist cs := by
      split
      next => exact .refl cs
      next => exact evictOldest_sublist cs
    refine ⟨_, { serial := x, batch := batch, state := .active i, confirmed := units, uncertainLow := none, strikes := 0 }, {
      eq := by simp only [activateCard, hfind]
      sublist := hsub
      others := fun q hq => hnone q (hsub.subset hq)
      kept := fun q hq hactive _ => ?_
      serial := rfl
      state := rfl
      confirmed := rfl
      inRange := fun _ hbatch hunits => ⟨hbatch, hunits, Nat.zero_le _, Nat.zero_le _⟩ }⟩
    split
    next => exact hq
    next => exact mem_evictOldest_of_active hq hactive

/-! ## Records and stations agree -/

section
variable {s t : State}

theorem State.cardsAgree_of_eq (hcards : t.ct.cards = s.ct.cards) (hcard : ∀ i, (t.station i).card = (s.station i).card)
    (hfits : ∀ i, (s.station i).CardFits → (t.station i).CardFits) (h : s.CardsAgree) : t.CardsAgree := by
  obtain ⟨hnodup, hactive, hnamed, hst⟩ := h
  exact ⟨by rwa [hcards], fun r hr i hi => by rw [hcard]; exact hactive r (hcards ▸ hr) i hi,
    fun i x hx => by rw [hcards]; exact hnamed i x (hcard i ▸ hx), fun i => hfits i (hst i)⟩

/-- No records and no card named. -/
theorem State.cardsAgree_of_emptied (hcards : t.ct.cards = []) (hst : ∀ i, (t.station i).Emptied) : t.CardsAgree := by
  refine ⟨by simp [hcards], by simp [hcards], fun i x hx => ?_, fun i => ?_⟩
  · rw [(hst i).1] at hx; cases hx
  · exact StationRecord.cardFits_of_cardless (hst i).1 (hst i).2

/-- R54: a card held at a station is named by it, and has its record ACTIVE there. -/
theorem State.CardsAgree.holdsCard (h : s.CardsAgree) {i : StationId} {x : Serial} (hx : s.HoldsCard i x) :
    (s.station i).card = some x ∧ ∃ r ∈ s.ct.cards, r.serial = x ∧ r.state = .active i := by
  obtain ⟨_, hactive, hnamed, _⟩ := h
  obtain hx | ⟨r, hr, hserial, hstate⟩ := hx
  · exact ⟨hx, hnamed i x hx⟩
  · exact ⟨hserial ▸ hactive r hr i hstate, r, hr, hserial, hstate⟩

/-- R56: a card leaves its station. -/
theorem State.CardsAgree.remove (h : s.CardsAgree) {i : StationId} {x : Serial} {r : StationRecord} (hx : s.HoldsCard i x)
    (hcard : r.card = none) (hstate : r.state ≠ .ready) :
    ((s.withCards (rememberCard x s.ct.cards)).setStation i r).CardsAgree := by
  obtain ⟨hsx, q, hq, hserial, hqi⟩ := h.holdsCard hx
  obtain ⟨hnodup, hactive, hnamed, hfits⟩ := h
  have hcards : rememberCard x s.ct.cards = dropCard x s.ct.cards ++ [{ q with state := .remembered rememberTime }] :=
    rememberCard_of_active (hserial ▸ find?_serial_of_mem hnodup hq) hqi
  have hst : ∀ j, ((s.withCards (rememberCard x s.ct.cards)).setStation i r).station j = if j = i then r else s.station j :=
    fun j => State.setStation_station _ i r j
  refine ⟨?nodup, ?active, ?named, ?fits⟩
  case nodup =>
    rw [State.setStation_ct, State.withCards_ct, hcards]
    exact nodup_serials_append hnodup (dropCard_sublist x _) fun p hp => hserial ▸ (mem_dropCard.1 hp).2
  case active =>
    intro p hp j hj
    rw [State.setStation_ct, State.withCards_ct, hcards] at hp
    obtain hp | hp := List.mem_append.1 hp
    · obtain ⟨hp, hne⟩ := mem_dropCard.1 hp
      have hpj := hactive p hp j hj
      have hji : j ≠ i := fun he => hne (Option.some.inj (hpj.symm.trans (he ▸ hsx)))
      rw [hst, if_neg hji, hpj]
    · rw [List.mem_singleton.1 hp] at hj; cases hj
  case named =>
    intro j y hy
    rw [hst] at hy
    split at hy
    next => rw [hcard] at hy; cases hy
    next hji =>
      obtain ⟨p, hp, hpy, hpj⟩ := hnamed j y hy
      refine ⟨p, ?_, hpy, hpj⟩
      rw [State.setStation_ct, State.withCards_ct, hcards]
      refine List.mem_append_left _ (mem_dropCard.2 ⟨hp, fun hpx => hji ?_⟩)
      rw [eq_of_serial_eq hnodup hp hq (hpx.trans hserial.symm), hqi] at hpj
      cases hpj; rfl
  case fits =>
    intro j
    rw [hst]
    split
    next => exact StationRecord.cardFits_of_cardless hcard hstate
    next => exact hfits j

/-- R54: every move keeps the agreement of records and stations. -/
theorem State.Move.cardsAgree (m : s.Move t) (h : s.CardsAgree) : t.CardsAgree := by
  cases m with
  | quiet hq => exact State.cardsAgree_of_eq (by rw [hq.ct]) hq.card hq.fits h
  | cards f hf hactive =>
    obtain ⟨hnodup, hat, hnamed, hfits⟩ := h
    refine ⟨?_, fun q hq i hi => ?_, fun i x hx => ?_, hfits⟩
    · have hserials : CardRecord.serial ∘ f = CardRecord.serial := funext fun r => (hf r).serial
      simpa only [State.withCards_ct, List.map_map, hserials] using hnodup
    · obtain ⟨r, hr, rfl⟩ := List.mem_map.1 hq
      rw [(hf r).serial]
      exact hat r hr i ((hf r).active i hi)
    · obtain ⟨r, hr, hserial, hri⟩ := hnamed i x hx
      exact ⟨f r, List.mem_map_of_mem hr, (hf r).serial.trans hserial, hactive r i hri⟩
  | remove i x r hx hcard hstate => exact h.remove hx hcard hstate
  | forget x hforget =>
    obtain ⟨hnodup, hat, hnamed, hfits⟩ := h
    obtain ⟨q, hq, hqx, hremembered⟩ := hforget
    refine ⟨hnodup.sublist ((dropCard_sublist x _).map _), fun r hr i hi => hat r (mem_dropCard.1 hr).1 i hi,
      fun i y hy => ?_, hfits⟩
    obtain ⟨r, hr, hry, hri⟩ := hnamed i y hy
    refine ⟨r, mem_dropCard.2 ⟨hr, fun hrx => ?_⟩, hry, hri⟩
    rw [← eq_of_serial_eq hnodup hr hq (hrx.trans hqx.symm)] at hremembered
    exact (r.isRemembered_iff.1 hremembered) i hri
  | hot page o hsel hrange => exact State.cardsAgree_of_eq rfl (fun _ => rfl) (fun _ => id) h
  | batch o hsel hrange => exact State.cardsAgree_of_eq rfl (fun _ => rfl) (fun _ => id) h
  | bank x b hb => exact State.cardsAgree_of_eq rfl (fun _ => rfl) (fun _ => id) h
  | bar x hnew hrem => exact State.cardsAgree_of_eq rfl (fun _ => rfl) (fun _ => id) h
  | unbar x => exact State.cardsAgree_of_eq rfl (fun _ => rfl) (fun _ => id) h
  | restart calm hct hst => exact State.cardsAgree_of_emptied (by rw [hct]) hst
  | power pins q hq =>
    refine State.cardsAgree_of_emptied rfl fun i => ?_
    rw [show (s.atPowerUp pins q).station i = StationRecord.reset from PerStation.get_fill _ i]
    exact ⟨rfl, by simp [StationRecord.reset]⟩

/-- R71: so does the admission of a card. -/
theorem State.CardsAgree.acceptCard (h : s.CardsAgree) {i : StationId} {x : Serial} {batch units : Nat}
    (hcheck : s.cardCheck i x batch units = none) : (s.acceptCard i x batch units).CardsAgree := by
  obtain ⟨hnodup, hat, hnamed, hfits⟩ := h
  obtain ⟨hidle, _, _, _, _, hremembered⟩ := (s.cardCheck_eq_none_iff i x batch units).1 hcheck
  obtain ⟨base, q, hadmit⟩ := activateCard_admitted i x batch units s.ct.cards
  have hcards : (s.acceptCard i x batch units).ct.cards = base ++ [q] := hadmit.eq
  have hst := s.acceptCard_station i x batch units
  have hnone : (s.station i).card = none := (hfits i).1 (.inl hidle)
  refine ⟨?nodup, ?active, ?named, ?fits⟩
  case nodup =>
    rw [hcards]
    exact nodup_serials_append hnodup hadmit.sublist fun r hr => hadmit.serial ▸ hadmit.others r hr
  case active =>
    intro r hr j hj
    rw [hcards] at hr
    rw [hst]
    obtain hr | hr := List.mem_append.1 hr
    · have hrj := hat r (hadmit.sublist.subset hr) j hj
      have hji : j ≠ i := fun he => by rw [he, hnone] at hrj; cases hrj
      rw [if_neg hji, hrj]
    · rw [List.mem_singleton.1 hr] at hj ⊢
      rw [hadmit.state] at hj
      cases hj
      rw [if_pos rfl, hadmit.serial]
  case named =>
    intro j y hy
    rw [hcards]
    rw [hst] at hy
    split at hy
    next hji =>
      cases hy
      exact ⟨q, List.mem_append_right _ (List.mem_singleton_self q), hadmit.serial, hji ▸ hadmit.state⟩
    next =>
      obtain ⟨r, hr, hry, hrj⟩ := hnamed j y hy
      have hactive : r.isRemembered = false := r.not_isRemembered_iff.2 ⟨j, hrj⟩
      refine ⟨r, List.mem_append_left _ (hadmit.kept r hr hactive fun hrx => ?_), hry, hrj⟩
      have hfound := (hremembered r (hrx ▸ find?_serial_of_mem hnodup hr)).1
      rw [hactive] at hfound
      cases hfound
  case fits =>
    intro j
    rw [hst]
    split
    next => exact ⟨by simp, fun _ => rfl⟩
    next => exact hfits j

end

/-! ## The room of the card table -/

section
variable {s t : State}

/-- No move makes the card table longer. -/
theorem State.Move.length_cards_le (m : s.Move t) : t.ct.cards.length ≤ s.ct.cards.length := by
  cases m with
  | quiet hq => rw [hq.ct]
  | cards f hf hactive => simp
  | remove i x r hx hcard hstate =>
    rw [State.setStation_ct, State.withCards_ct]
    obtain heq | ⟨q, hq, hqx, heq⟩ := rememberCard_cases x s.ct.cards <;> rw [heq]
    exact length_dropCard_append_le hq hqx _
  | forget x hforget => exact (dropCard_sublist x _).length_le
  | restart calm hct hst => rw [hct]; exact Nat.zero_le _
  | power pins q hq => exact Nat.zero_le _
  | hot page o hsel hrange => exact le_rfl
  | batch o hsel hrange => exact le_rfl
  | bank x b hb => exact le_rfl
  | bar x hnew hrem => exact le_rfl
  | unbar x => exact le_rfl

/-- R54: a table of more records than there are stations holds a REMEMBERED one. -/
theorem State.CardsAgree.exists_remembered (h : s.CardsAgree) (hlen : 48 < s.ct.cards.length) :
    ∃ r ∈ s.ct.cards, r.isRemembered = true := by
  obtain ⟨hnodup, hat, _, _⟩ := h
  by_contra hnone
  have hactive : ∀ r ∈ s.ct.cards, ∃ i, r.state = .active i := fun r hr =>
    r.not_isRemembered_iff.1 (Bool.not_eq_true _ ▸ fun hrem => hnone ⟨r, hr, hrem⟩)
  have hstates : (s.ct.cards.map CardRecord.state).Nodup := by
    refine hnodup.of_map.map_on fun r hr q hq heq => ?_
    obtain ⟨i, hi⟩ := hactive r hr
    have hserial := (hat r hr i hi).symm.trans (hat q hq i (heq ▸ hi))
    exact eq_of_serial_eq hnodup hr hq (Option.some.inj hserial)
  have hsub : s.ct.cards.map CardRecord.state ⊆ stationIds.map CardState.active := by
    intro st hst
    obtain ⟨r, hr, rfl⟩ := List.mem_map.1 hst
    obtain ⟨i, hi⟩ := hactive r hr
    exact List.mem_map.2 ⟨i, mem_stationIds i, hi.symm⟩
  have hle := (hstates.subperm hsub).length_le
  rw [List.length_map, List.length_map, stationIds, List.length_finRange] at hle
  omega

/-- R58: an admission keeps the table to its room. -/
theorem State.CardsFit.acceptCard (h : s.CardsFit) {i : StationId} {x : Serial} {batch units : Nat}
    (hcheck : s.cardCheck i x batch units = none) : (s.acceptCard i x batch units).CardsFit := by
  obtain ⟨hagree, hlen⟩ := h
  refine ⟨hagree.acceptCard hcheck, ?_⟩
  rw [State.acceptCard_ct]
  show (activateCard i x batch units s.ct.cards).length ≤ cardTableRoom
  unfold activateCard
  split
  next r hfind =>
    have hserial : r.serial = x := by simpa using List.find?_some hfind
    exact (length_dropCard_append_le (List.mem_of_find?_eq_some hfind) hserial _).trans hlen
  next =>
    rw [List.length_append, List.length_singleton]
    split
    next hroom => exact hroom
    next hfull =>
      have hmany : 48 < s.ct.cards.length := (show 48 < cardTableRoom by decide).trans_le (Nat.le_of_not_lt hfull)
      exact (length_evictOldest_lt (hagree.exists_remembered hmany)).trans_le hlen

end

/-- Settles O54: moves keep the agreement and lengthen nothing, and a full table has a REMEMBERED record to evict. -/
theorem cardsFitAlways : Obligations.CardsFitAlways :=
  kept_of_move (fun m ⟨hagree, hlen⟩ => ⟨m.cardsAgree hagree, m.length_cards_le.trans hlen⟩)
    fun hcheck h => h.acceptCard hcheck

/-! ## What becomes of the records -/

section
variable {s t : State}

/-- R53: a record after a move is what became of one before. -/
theorem State.Move.follows (m : s.Move t) : ∀ q ∈ t.ct.cards, ∃ r ∈ s.ct.cards, r.Follows q := by
  intro q hq
  cases m with
  | quiet h => rw [h.ct] at hq; exact ⟨q, hq, .refl q⟩
  | cards f hf hactive =>
    obtain ⟨r, hr, rfl⟩ := List.mem_map.1 hq
    exact ⟨r, hr, hf r⟩
  | remove i x r hx hcard hstate =>
    rw [State.setStation_ct, State.withCards_ct] at hq
    obtain heq | ⟨p, hp, _, heq⟩ := rememberCard_cases x s.ct.cards <;> rw [heq] at hq
    · exact ⟨q, hq, .refl q⟩
    · obtain hq | hq := List.mem_append.1 hq
      · exact ⟨q, (mem_dropCard.1 hq).1, .refl q⟩
      · rw [List.mem_singleton.1 hq]; exact ⟨p, hp, p.follows_remembered _⟩
  | forget x hforget => exact ⟨q, (mem_dropCard.1 hq).1, .refl q⟩
  | restart calm hct hst => rw [hct] at hq; cases hq
  | power pins p hp => cases hq
  | hot page o hsel hrange => exact ⟨q, hq, .refl q⟩
  | batch o hsel hrange => exact ⟨q, hq, .refl q⟩
  | bank x b hb => exact ⟨q, hq, .refl q⟩
  | bar x hnew hrem => exact ⟨q, hq, .refl q⟩
  | unbar x => exact ⟨q, hq, .refl q⟩

theorem State.Moves.follows (h : s.Moves t) : ∀ q ∈ t.ct.cards, ∃ r ∈ s.ct.cards, r.Follows q := by
  induction h with
  | refl => exact fun q hq => ⟨q, hq, .refl q⟩
  | tail _ m ih =>
    intro p hp
    obtain ⟨q, hq, hqp⟩ := m.follows p hp
    obtain ⟨r, hr, hrq⟩ := ih q hq
    exact ⟨r, hr, hrq.trans hqp⟩

end

/-- Settles O58: moves never raise the units of a record, and an admission takes no more than were confirmed (R70). -/
theorem confirmedUnitsNeverIncrease : Obligations.ConfirmedUnitsNeverIncrease := by
  intro c s t hnodup hexec r hr q hq hserial
  obtain hmoves | ⟨u, i, x, batch, units, hquiet, hcheck, rfl⟩ := exec_cases hexec
  · obtain ⟨p, hp, hfollows⟩ := hmoves.follows q hq
    rw [eq_of_serial_eq hnodup hr hp (hserial.symm.trans hfollows.serial)]
    exact hfollows.confirmed
  · obtain ⟨base, p, hadmit⟩ := activateCard_admitted i x batch units u.ct.cards
    have hq' : q ∈ base ++ [p] := hadmit.eq ▸ hq
    rw [hquiet.ct] at hadmit
    obtain hq' | hq' := List.mem_append.1 hq'
    · rw [eq_of_serial_eq hnodup hr (hadmit.sublist.subset hq') hserial.symm]
    · rw [List.mem_singleton.1 hq'] at hserial ⊢
      have hx : r.serial = x := hserial.symm.trans hadmit.serial
      have hfind : u.ct.find x = some r := by
        rw [CardTable.find, hquiet.ct, ← hx]
        exact find?_serial_of_mem hnodup hr
      obtain ⟨_, _, _, _, _, hconfirmed⟩ := (u.cardCheck_eq_none_iff i x batch units).1 hcheck
      rw [hadmit.confirmed]
      exact (hconfirmed r hfind).2

end Sys2Proof.Machine

/-! # The card table (03): barred cards, ranges and tables -/

namespace Sys2Proof.Machine

/-! ## No barred card in use -/

section
variable {s t : State}

/-- R73: where the lists stay, no record becomes barred. -/
theorem State.NoBarredCardInUse.of_lists (h : s.NoBarredCardInUse) (hagree : t.CardsAgree)
    (hfollows : ∀ q ∈ t.ct.cards, ∃ r ∈ s.ct.cards, r.Follows q) (hhot : t.ct.hot = s.ct.hot)
    (hautobar : t.ct.autobar = s.ct.autobar) : t.NoBarredCardInUse := by
  obtain ⟨_, hnodup, hroom, hclear⟩ := h
  refine ⟨hagree, by rwa [hautobar], by rwa [hautobar], fun q hq hactive => ?_⟩
  obtain ⟨r, hr, hrq⟩ := hfollows q hq
  obtain ⟨i, hi⟩ := q.not_isRemembered_iff.1 hactive
  have hbar := (s.ct.barCode_eq_none_iff r.serial).1 (hclear r hr (r.not_isRemembered_iff.2 ⟨i, hrq.active i hi⟩))
  rw [t.ct.barCode_eq_none_iff, hhot, hautobar, hrq.serial]
  exact hbar

/-- Where the records and stations stay, what the lists hold decides. -/
theorem State.NoBarredCardInUse.withLists (h : s.NoBarredCardInUse) {hot : SlotTable HotRange} {autobar : List Serial}
    (hnodup : autobar.Nodup) (hroom : autobar.length ≤ autobarRoom)
    (hhot : ∀ r ∈ s.ct.cards, ∀ i, r.state = .active i → ∀ e ∈ hot, e ∈ s.ct.hot ∨ e.2.covers r.serial = false)
    (hautobar : ∀ r ∈ s.ct.cards, r.isRemembered = false → r.serial ∈ autobar → r.serial ∈ s.ct.autobar) :
    (s.withLists hot autobar).NoBarredCardInUse := by
  obtain ⟨hagree, _, _, hclear⟩ := h
  refine ⟨State.cardsAgree_of_eq rfl (fun _ => rfl) (fun _ => id) hagree, hnodup, hroom, fun r hr hactive => ?_⟩
  obtain ⟨hranges, hlisted⟩ := (s.ct.barCode_eq_none_iff r.serial).1 (hclear r hr hactive)
  obtain ⟨i, hi⟩ := r.not_isRemembered_iff.1 hactive
  refine (CardTable.barCode_eq_none_iff _ _).2 ⟨fun e he => ?_, fun hin => hlisted (hautobar r hr hactive hin)⟩
  exact (hhot r hr i hi e he).elim (hranges e) id

/-- R63: a serial that is not in the list joins it, within its room. -/
theorem nodup_addAutobar {x : Serial} {l : List Serial} (h : l.Nodup) (hx : x ∉ l) : (addAutobar x l).Nodup := by
  have hsub : (if l.length < autobarRoom then l else l.tail).Sublist l := by
    split
    next => exact .refl l
    next => exact List.tail_sublist l
  rw [addAutobar, List.nodup_append]
  refine ⟨h.sublist hsub, List.nodup_singleton x, fun y hy z hz => ?_⟩
  rw [List.mem_singleton.1 hz]
  exact fun he => hx (he ▸ hsub.subset hy)

theorem length_addAutobar_le {x : Serial} {l : List Serial} (h : l.length ≤ autobarRoom) :
    (addAutobar x l).length ≤ autobarRoom := by
  have hpos : 0 < autobarRoom := by decide
  rw [addAutobar, List.length_append, List.length_singleton]
  split
  next hlt => exact hlt
  next => rw [List.length_tail]; omega

theorem mem_addAutobar {x y : Serial} {l : List Serial} (h : y ∈ addAutobar x l) : y ∈ l ∨ y = x := by
  obtain h | h := List.mem_append.1 h
  · split at h
    next => exact .inl h
    next => exact .inl (List.mem_of_mem_tail h)
  · exact .inr (List.mem_singleton.1 h)

/-- R63, R73: every move keeps barred cards out of use. -/
theorem State.Move.noBarredCardInUse (m : s.Move t) (h : s.NoBarredCardInUse) : t.NoBarredCardInUse := by
  have hagree := m.cardsAgree h.1
  have hfollows := m.follows
  obtain ⟨hbefore, hnodup, hroom, hclear⟩ := id h
  cases m with
  | quiet hq => exact h.of_lists hagree hfollows (by rw [hq.ct]) (by rw [hq.ct])
  | cards f hf hactive => exact h.of_lists hagree hfollows rfl rfl
  | remove i x r hx hcard hstate => exact h.of_lists hagree hfollows rfl rfl
  | forget x hforget => exact h.of_lists hagree hfollows rfl rfl
  | batch o hsel hrange => exact h.of_lists hagree hfollows rfl rfl
  | bank x b hb => exact h.of_lists hagree hfollows rfl rfl
  | restart calm hct hst => exact h.of_lists hagree hfollows (by rw [hct]) (by rw [hct])
  | power pins q hq => exact ⟨hagree, List.nodup_nil, Nat.zero_le _, fun r hr => by cases hr⟩
  | hot page o hsel hrange =>
    refine h.withLists hnodup hroom (fun r hr i hi e he => ?_) fun _ _ _ => id
    obtain he | ⟨_, ho⟩ := SlotTable.mem_write _ o _ e he
    · exact .inl he
    · obtain hnone | hclear := (hrange e.2 ho).2 r hr i hi
      · rw [hbefore.2.1 r hr i hi] at hnone; cases hnone
      · exact .inr hclear
  | bar x hnew hrem =>
    refine h.withLists (nodup_addAutobar hnodup hnew) (length_addAutobar_le hroom) (fun _ _ _ _ _ => .inl) ?_
    intro r hr hactive hin
    obtain hin | hrx := mem_addAutobar hin
    · exact hin
    · obtain ⟨q, hq, hqx, hremembered⟩ := hrem
      rw [← eq_of_serial_eq hbefore.1 hr hq (hrx.trans hqx.symm), hactive] at hremembered
      cases hremembered
  | unbar x =>
    exact h.withLists (hnodup.erase x) ((List.length_erase_le).trans hroom) (fun _ _ _ _ _ => .inl)
      fun _ _ _ => List.mem_of_mem_erase

/-- R68: an admitted card is not barred. -/
theorem State.NoBarredCardInUse.acceptCard (h : s.NoBarredCardInUse) {i : StationId} {x : Serial} {batch units : Nat}
    (hcheck : s.cardCheck i x batch units = none) : (s.acceptCard i x batch units).NoBarredCardInUse := by
  obtain ⟨hagree, hnodup, hroom, hclear⟩ := h
  obtain ⟨_, _, _, _, hbar, _⟩ := (s.cardCheck_eq_none_iff i x batch units).1 hcheck
  obtain ⟨base, q, hadmit⟩ := activateCard_admitted i x batch units s.ct.cards
  refine ⟨hagree.acceptCard hcheck, hnodup, hroom, fun r hr hactive => ?_⟩
  have hr' : r ∈ base ++ [q] := hadmit.eq ▸ hr
  obtain hr' | hr' := List.mem_append.1 hr'
  · exact hclear r (hadmit.sublist.subset hr') hactive
  · rw [List.mem_singleton.1 hr', hadmit.serial]; exact hbar

end

/-- Settles O55: a range is written, and a serial listed, only when its card has left its station; an admission takes no
barred card (R68). -/
theorem noBarredCardInUseEver : Obligations.NoBarredCardInUseEver :=
  kept_of_move State.Move.noBarredCardInUse fun hcheck h => h.acceptCard hcheck

/-! ## Ranges -/

section
variable {s t : State}

/-- R92: the failure counts, station by station. -/
theorem State.forall_failures_iff (s : State) :
    (∀ n ∈ s.de.failures.values, n ≤ faultCount) ↔ ∀ i, s.de.failures.get i ≤ faultCount := by
  simp only [PerStation.mem_values, forall_exists_index, forall_apply_eq_imp_iff]

/-- R61: a write of the batch table keeps its ranges. -/
theorem State.Move.batches_inRange (m : s.Move t) (h : ∀ e ∈ s.ct.batches, e.2.InRange) :
    ∀ e ∈ t.ct.batches, e.2.InRange := by
  cases m with
  | batch o hsel hrange => exact SlotTable.forall_write _ h fun e he => (hrange e he).1
  | quiet hq => rwa [hq.ct]
  | restart calm hct hst => rwa [hct]
  | power pins q hq => exact fun e he => by cases he
  | cards f hf hactive => exact h
  | remove i x r hx hcard hstate => exact h
  | forget x hforget => exact h
  | hot page o hsel hrange => exact h
  | bank x b hb => exact h
  | bar x hnew hrem => exact h
  | unbar x => exact h

/-- Failure counts, clock and record numbers keep their ranges. -/
theorem State.Move.calm_ranges (m : s.Move t) : (s.tb.Legal → t.tb.Legal) ∧ (s.rq.Numbered → t.rq.Numbered) ∧
    ((∀ i, s.de.failures.get i ≤ faultCount) → ∀ i, t.de.failures.get i ≤ faultCount) := by
  cases m with
  | quiet hq => exact ⟨hq.clock, hq.numbers, hq.failures⟩
  | restart calm hct hst => exact ⟨calm.clock, calm.numbers, calm.failures⟩
  | power pins q hq =>
    refine ⟨fun _ => ?_, hq, fun _ i => ?_⟩
    · exact ⟨.inl rfl, Nat.zero_le _, Nat.zero_le _, Nat.zero_le _, Nat.zero_le _, rfl⟩
    · rw [show (s.atPowerUp pins q).de.failures.get i = 0 from PerStation.get_fill 0 i]
      exact Nat.zero_le _
  | batch o hsel hrange => exact ⟨id, id, id⟩
  | cards f hf hactive => exact ⟨id, id, id⟩
  | remove i x r hx hcard hstate => exact ⟨id, id, id⟩
  | forget x hforget => exact ⟨id, id, id⟩
  | hot page o hsel hrange => exact ⟨id, id, id⟩
  | bank x b hb => exact ⟨id, id, id⟩
  | bar x hnew hrem => exact ⟨id, id, id⟩
  | unbar x => exact ⟨id, id, id⟩

theorem State.Move.numbersLegal (m : s.Move t) (h : s.NumbersLegal) : t.NumbersLegal := by
  obtain ⟨hcards, hbatches, hfailures, hclock, hnumbers⟩ := h
  obtain ⟨hclock', hnumbers', hfailures'⟩ := m.calm_ranges
  refine ⟨fun q hq => ?_, m.batches_inRange hbatches, ?_, hclock' hclock, hnumbers' hnumbers⟩
  · obtain ⟨r, hr, hrq⟩ := m.follows q hq
    exact hrq.inRange (hcards r hr)
  · exact t.forall_failures_iff.2 (hfailures' (s.forall_failures_iff.1 hfailures))

/-- R67: the entry of a batch stands in the batch table. -/
theorem CardTable.batchEntry_eq_some {c : CardTable} {batch : Nat} {e : BatchEntry} (h : c.batchEntry batch = some e) :
    (∃ k, (k, e) ∈ c.batches) ∧ e.batch = batch := by
  obtain ⟨p, hp, rfl⟩ := List.mem_map.1 (List.mem_of_find?_eq_some h)
  exact ⟨⟨p.1, hp⟩, by simpa using List.find?_some h⟩

/-- R66, R67: the batch of an admitted card stands in the batch table, and its units are at most the face value. -/
theorem State.NumbersLegal.acceptCard (h : s.NumbersLegal) {i : StationId} {x : Serial} {batch units : Nat}
    (hcheck : s.cardCheck i x batch units = none) : (s.acceptCard i x batch units).NumbersLegal := by
  obtain ⟨hcards, hbatches, hrest⟩ := h
  obtain ⟨_, _, ⟨e, hentry, _, hface⟩, _, _, _⟩ := (s.cardCheck_eq_none_iff i x batch units).1 hcheck
  obtain ⟨⟨k, hmem⟩, hbatch⟩ := CardTable.batchEntry_eq_some hentry
  obtain ⟨hmin, hmax, _, hfacemax⟩ := hbatches (k, e) hmem
  obtain ⟨base, q, hadmit⟩ := activateCard_admitted i x batch units s.ct.cards
  refine ⟨fun r hr => ?_, hbatches, hrest⟩
  have hr' : r ∈ base ++ [q] := hadmit.eq ▸ hr
  obtain hr' | hr' := List.mem_append.1 hr'
  · exact hcards r (hadmit.sublist.subset hr')
  · rw [List.mem_singleton.1 hr']
    exact hadmit.inRange hcards (hbatch ▸ ⟨hmin, hmax⟩) (hface.trans hfacemax)

end

/-- Settles O50: a record follows one in range, and an admitted card's batch and units are in range with its batch entry. -/
theorem numbersLegalAlways : Obligations.NumbersLegalAlways :=
  kept_of_move State.Move.numbersLegal fun hcheck h => h.acceptCard hcheck

/-! ## Tables -/

/-- Hot list: canonical and in range. -/
def HotLegal (hot : SlotTable HotRange) : Prop := SlotTable.wf 2048 hot = true ∧ ∀ e ∈ hot, e.2.InRange

/-- Batch table: canonical, in range, and no batch number twice. -/
def BatchesLegal (batches : SlotTable BatchEntry) : Prop :=
  SlotTable.wf 64 batches = true ∧ (∀ e ∈ batches, e.2.InRange) ∧ (batches.map fun e => e.2.batch).Nodup

/-- The invariant, table by table. -/
theorem State.tablesLegal_iff (s : State) : s.TablesLegal ↔
    s.mu.Inside ∧ HotLegal s.ct.hot ∧ BatchesLegal s.ct.batches ∧ ∀ x, (s.bank x).TablesLegal := by
  have hbanks : (∀ x, (s.bank x).TablesLegal) ↔ s.ts.a.TablesLegal ∧ s.ts.b.TablesLegal :=
    ⟨fun h => ⟨h .a, h .b⟩, fun h x => by cases x; exacts [h.1, h.2]⟩
  rw [hbanks]
  constructor
  · rintro ⟨⟨hin, hhot, hbatches, ha, hb⟩, hhotRange, hbatchRange, hnodup, ha', hb'⟩
    exact ⟨hin, ⟨hhot, hhotRange⟩, ⟨hbatches, hbatchRange, hnodup⟩, ⟨ha, ha'⟩, ⟨hb, hb'⟩⟩
  · rintro ⟨hin, ⟨hhot, hhotRange⟩, ⟨hbatches, hbatchRange, hnodup⟩, ⟨ha, ha'⟩, ⟨hb, hb'⟩⟩
    exact ⟨⟨hin, hhot, hbatches, ha, hb⟩, hhotRange, hbatchRange, hnodup, ha', hb'⟩

theorem Bank.tablesLegal_reset : Bank.reset.TablesLegal := by
  simp [Bank.TablesLegal, Bank.Canonical, Bank.EntriesLegal, Bank.reset]

section
variable {s t : State}

/-- R62. -/
theorem HotLegal.write {hot : SlotTable HotRange} (h : HotLegal hot) {k : Nat} (hk : k < 2048) (o : Option HotRange)
    (ho : ∀ e, o = some e → e.InRange) : HotLegal (SlotTable.write k o hot) :=
  ⟨SlotTable.wf_write _ _ _ _ h.1 hk, SlotTable.forall_write k h.2 ho⟩

/-- R61. -/
theorem BatchesLegal.write {batches : SlotTable BatchEntry} (h : BatchesLegal batches) {k : Nat} (hk : k < 64)
    (o : Option BatchEntry)
    (ho : ∀ e, o = some e → e.InRange ∧ SlotTable.otherHas k (fun _ c => c.batch == e.batch) batches = false) :
    BatchesLegal (SlotTable.write k o batches) := by
  obtain ⟨hwf, hrange, hnodup⟩ := h
  refine ⟨SlotTable.wf_write _ _ _ _ hwf hk, SlotTable.forall_write k hrange fun e he => (ho e he).1, ?_⟩
  refine SlotTable.nodup_keys_write k _ o ((SlotTable.wf_iff _ _).1 hwf).1 hnodup fun e he p hp hpk => ?_
  simpa using (SlotTable.not_otherHas_iff k _ _).1 (ho e he).2 p hp hpk

/-- Every move keeps the tables: a write of each table by its own rule, and the others change no entry. -/
theorem State.Move.tablesLegal (m : s.Move t) (h : s.TablesLegal) : t.TablesLegal := by
  rw [State.tablesLegal_iff] at h ⊢
  obtain ⟨hin, hhot, hbatches, hbanks⟩ := id h
  have hslot := State.slotAtPointer_lt hin
  cases m with
  | quiet hq =>
    exact ⟨hq.pointer hin, by rwa [hq.ct], by rwa [hq.ct], fun x => (hbanks x).of_entries (hq.entries x)⟩
  | hot page o hsel hrange =>
    exact ⟨hin, hhot.write (by simpa [hsel] using hslot) o fun e he => (hrange e he).1, hbatches, hbanks⟩
  | batch o hsel hrange => exact ⟨hin, hhot, hbatches.write (by simpa [hsel] using hslot) o hrange, hbanks⟩
  | bank x b hb =>
    refine ⟨hin, hhot, hbatches, fun y => ?_⟩
    obtain rfl | rfl := x.eq_or_other y
    · rw [State.setBank_same]; exact hb hin (hbanks _)
    · rw [State.setBank_other]; exact hbanks _
  | restart calm hct hst =>
    exact ⟨calm.pointer hin, by rwa [hct], by rwa [hct], fun x => (hbanks x).of_entries (calm.entries x)⟩
  | power pins q hq =>
    refine ⟨show 0 < 64 by decide, ⟨SlotTable.wf_nil _, nofun⟩, ⟨SlotTable.wf_nil _, nofun, List.nodup_nil⟩, fun x => ?_⟩
    cases x <;> exact Bank.tablesLegal_reset
  | cards f hf hactive => exact h
  | remove i x r hx hcard hstate => exact h
  | forget x hforget => exact h
  | bar x hnew hrem => exact h
  | unbar x => exact h

end

/-- Settles O51: an admission writes no table. -/
theorem tablesLegalAlways : Obligations.TablesLegalAlways :=
  kept_of_move State.Move.tablesLegal fun _ h => h

end Sys2Proof.Machine

/-! # The card table (03): a CARD_IN, an outcome, an entry, the lower bound -/

namespace Sys2Proof.Machine

/-! ## A CARD_IN taken -/

theorem dropCard_eq_filter (x : Serial) (cs : List CardRecord) : dropCard x cs = cs.filter (·.serial ≠ x) := by
  simp only [dropCard, bne, beq_eq_decide, ne_eq, decide_not]

theorem HotRange.covers_iff (h : HotRange) (x : Serial) : h.covers x = true ↔ h.first ≤ x ∧ x ≤ h.last := by
  simp [HotRange.covers]

section
variable {s : State} {i : StationId} {x : Serial} {batch units : Nat} {rest : List RowInFrame}

/-- R6, R152: the head is taken, and its card is judged. -/
theorem exec_cardIn_eq (hrun : s.running = true) (hin : s.rlc.inbound = ⟨i, .cardIn x batch units⟩ :: rest) :
    exec .cardIn s = .next ((s.rowTaken rest).judgeCard i x batch units) := by
  rw [show exec .cardIn s = whenRunning State.takeCardIn s from rfl, whenRunning_of_running _ s hrun]
  simp only [State.takeCardIn, State.takeRow, hin]
  rfl

/-- R71: a card that passes every check is admitted. -/
theorem exec_cardIn_of_admitted (hrun : s.running = true) (hin : s.rlc.inbound = ⟨i, .cardIn x batch units⟩ :: rest)
    (hcheck : s.cardCheck i x batch units = none) :
    exec .cardIn s = .next ((s.rowTaken rest).acceptCard i x batch units) := by
  have hcheck' : (s.rowTaken rest).cardCheck i x batch units = none := hcheck
  rw [exec_cardIn_eq hrun hin, State.judgeCard, hcheck']

/-- R64: a card that fails a check which counts no strike is refused. -/
theorem exec_cardIn_of_refused (hrun : s.running = true) (hin : s.rlc.inbound = ⟨i, .cardIn x batch units⟩ :: rest)
    {r : CardRefusal} (hcheck : s.cardCheck i x batch units = some r) (hr : r.strikes = false) :
    exec .cardIn s = .next ((s.rowTaken rest).tellCard i (.cardRefused r)) := by
  have hcheck' : (s.rowTaken rest).cardCheck i x batch units = some r := hcheck
  simp [exec_cardIn_eq hrun hin, State.judgeCard, hcheck', hr]

/-- R75: a card that fails check 7 or 8 is refused after the strike has acted. -/
theorem exec_cardIn_of_strike (hrun : s.running = true) (hin : s.rlc.inbound = ⟨i, .cardIn x batch units⟩ :: rest)
    {r : CardRefusal} (hcheck : s.cardCheck i x batch units = some r) (hr : r.strikes = true) :
    exec .cardIn s = .next (((s.rowTaken rest).countStrike x).tellCard i (.cardRefused r)) := by
  have hcheck' : (s.rowTaken rest).cardCheck i x batch units = some r := hcheck
  simp [exec_cardIn_eq hrun hin, State.judgeCard, hcheck', hr]

end

/-! ## The checks in order -/

section
variable {s : State} {i : StationId} {x : Serial} {batch units : Nat} {e : BatchEntry}
variable (hidle : (s.station i).state = .idle) (hopened : s.mu.service = .opened)
include hidle hopened

/-- R66: no entry of the batch. -/
theorem State.cardCheck_of_unknownBatch (hbatch : s.ct.batchEntry batch = none) :
    s.cardCheck i x batch units = some .unknownBatch := by
  simp [State.cardCheck, hidle, hopened, hbatch]

variable (hbatch : s.ct.batchEntry batch = some e)
include hbatch

theorem State.cardCheck_of_withdrawn (hstanding : e.standing = .withdrawn) :
    s.cardCheck i x batch units = some .withdrawn := by
  simp [State.cardCheck, hidle, hopened, hbatch, hstanding]

variable (hcurrent : e.standing = .current)
include hcurrent

theorem State.cardCheck_of_overFace (hface : e.face < units) : s.cardCheck i x batch units = some .overFace := by
  simp [State.cardCheck, hidle, hopened, hbatch, hcurrent, hface]

theorem State.cardCheck_of_empty : s.cardCheck i x batch 0 = some .empty := by
  simp [State.cardCheck, hidle, hopened, hbatch, hcurrent]

variable (hface : units ≤ e.face) (hunits : units ≠ 0)
include hface hunits

theorem State.cardCheck_of_barred {c : Byte} (hbar : s.ct.barCode x = some c) :
    s.cardCheck i x batch units = some (.barred c) := by
  simp [State.cardCheck, hidle, hopened, hbatch, hcurrent, Nat.not_lt.2 hface, hunits, hbar]

/-- R69, R70: checks 7 and 8 of a card with a record. -/
theorem State.cardCheck_of_known {r : CardRecord} (hbar : s.ct.barCode x = none) (hfind : s.ct.find x = some r) :
    s.cardCheck i x batch units =
      if r.isRemembered = false then some .inUse else if r.confirmed < units then some .unitsRose else none := by
  simp [State.cardCheck, hidle, hopened, hbatch, hcurrent, Nat.not_lt.2 hface, hunits, hbar, hfind]

end

section
variable (t : CardTable)

/-- R68: the lowest-numbered slot whose range holds the serial gives the code. -/
theorem CardTable.barCode_of_hot {x : Serial} {pre post : SlotTable HotRange} {k : Nat} {h : HotRange}
    (hhot : t.hot = pre ++ (k, h) :: post) (hpre : ∀ p ∈ pre, ¬(p.2.first ≤ x ∧ x ≤ p.2.last)) (hfirst : h.first ≤ x)
    (hlast : x ≤ h.last) : t.barCode x = some h.code := by
  have hfind : ((t.hot.map Prod.snd).find? fun g => g.covers x) = some h := by
    refine List.find?_eq_some_iff_append.2 ⟨(h.covers_iff x).2 ⟨hfirst, hlast⟩, pre.map Prod.snd, post.map Prod.snd, ?_, ?_⟩
    · rw [hhot, List.map_append, List.map_cons]
    · intro g hg
      obtain ⟨p, hp, rfl⟩ := List.mem_map.1 hg
      have hout := hpre p hp
      rw [← HotRange.covers_iff, Bool.not_eq_true] at hout
      simp [hout]
  simp only [CardTable.barCode, hfind]

/-- R68: a serial in no range and in the auto-bar list is barred with code 0. -/
theorem CardTable.barCode_of_autobar {x : Serial} (hhot : ∀ p ∈ t.hot, ¬(p.2.first ≤ x ∧ x ≤ p.2.last))
    (hin : x ∈ t.autobar) : t.barCode x = some 0 := by
  have hfind : ((t.hot.map Prod.snd).find? fun g => g.covers x) = none := by
    refine List.find?_eq_none.2 fun g hg => ?_
    obtain ⟨p, hp, rfl⟩ := List.mem_map.1 hg
    rw [HotRange.covers_iff]
    exact hhot p hp
  simp [CardTable.barCode, hfind, hin]

theorem CardTable.batchEntry_eq_none {batch : Nat} (h : ∀ e ∈ t.batches, e.2.batch ≠ batch) : t.batchEntry batch = none := by
  refine List.find?_eq_none.2 fun e he => ?_
  obtain ⟨p, hp, rfl⟩ := List.mem_map.1 he
  simpa using h p hp

end

/-- Settles O12: check by check, each refusal counting no strike. -/
theorem cardRefusedInOrder : Obligations.CardRefusedInOrder := by
  intro s i x batch units rest hrun hin refused
  have hrefuse : ∀ {r : CardRefusal}, r.strikes = false → s.cardCheck i x batch units = some r → refused r :=
    fun hr hcheck => exec_cardIn_of_refused hrun hin hcheck hr
  refine ⟨fun hout => hrefuse rfl (by simp [State.cardCheck, hout]),
    fun hserves hbusy => hrefuse rfl (by simp [State.cardCheck, hserves, hbusy]),
    fun hidle => ⟨fun hclosed => ?_, fun hopened => ?_⟩⟩
  · exact hrefuse rfl (by simp [State.cardCheck, hidle, hclosed])
  refine ⟨fun hno => hrefuse rfl (State.cardCheck_of_unknownBatch hidle hopened (s.ct.batchEntry_eq_none hno)), ?_⟩
  intro e hbatch
  refine ⟨fun hw => hrefuse rfl (State.cardCheck_of_withdrawn hidle hopened hbatch hw),
    fun hcurrent => ⟨fun hover => ?_, ?_⟩⟩
  · exact hrefuse rfl (State.cardCheck_of_overFace hidle hopened hbatch hcurrent hover)
  intro hface
  refine ⟨fun hzero => ?_, fun hunits => ⟨fun pre k h post hhot hpre hfirst hlast => ?_, fun hno hlisted => ?_⟩⟩
  · subst hzero
    exact hrefuse rfl (State.cardCheck_of_empty hidle hopened hbatch hcurrent)
  · exact hrefuse rfl (State.cardCheck_of_barred hidle hopened hbatch hcurrent hface hunits
      (s.ct.barCode_of_hot hhot hpre hfirst hlast))
  · exact hrefuse rfl (State.cardCheck_of_barred hidle hopened hbatch hcurrent hface hunits
      (s.ct.barCode_of_autobar hno hlisted))

/-! ## A card admitted -/

section
variable {i : StationId} {x : Serial} {batch units : Nat} {cs : List CardRecord}

theorem activateCard_of_found {r : CardRecord} (hfind : (cs.find? fun q => q.serial == x) = some r) :
    activateCard i x batch units cs = cs.filter (·.serial ≠ x) ++
      [{ r with batch := batch, state := .active i, confirmed := units, uncertainLow := none }] := by
  simp only [activateCard, hfind, dropCard_eq_filter]

/-- R58: a new record, in the place that there is or that eviction makes. -/
theorem activateCard_of_new (hfind : (cs.find? fun q => q.serial == x) = none) :
    activateCard i x batch units cs = (if cs.length < 96 then cs else evictOldest cs) ++
      [{ serial := x, batch := batch, state := .active i, confirmed := units, uncertainLow := none, strikes := 0 }] := by
  simp only [activateCard, hfind]
  rfl

end

/-- Settles O11: the card passes every check, and the record found, or the room there is, decides what the table holds. -/
theorem cardAdmitted : Obligations.CardAdmitted := by
  intro s i x batch units rest e hrun hin hidle hopened hbatch hcurrent hface hunits hbar hknown
  have hcheck : s.cardCheck i x batch units = none :=
    (s.cardCheck_eq_none_iff i x batch units).2 ⟨hidle, hopened, ⟨e, hbatch, hcurrent, hface⟩, hunits, hbar, hknown⟩
  have hst := (s.rowTaken rest).acceptCard_station i x batch units
  refine ⟨_, exec_cardIn_of_admitted hrun hin hcheck, ?station, ?others, ?found, ?room, ?full, ?orders, rfl, rfl, rfl⟩
  case station => rw [hst, if_pos rfl]; rfl
  case others => exact fun j hj => by rw [hst, if_neg hj]; rfl
  case found => exact fun r hfind => activateCard_of_found hfind
  case room => exact fun hnone hroom => (activateCard_of_new hnone).trans (by rw [if_pos hroom])
  case full =>
    intro hnone hfull pre r post hcards hpre hr
    refine (activateCard_of_new hnone).trans ?_
    rw [if_neg (Nat.not_lt.2 hfull), hcards, evictOldest_append hr post hpre]
  case orders => exact fun j => PerStation.get_map _ s.de.orders j

/-! ## Strikes -/

section
variable {s : State} {x : Serial} {r : CardRecord}

/-- A change that keeps serials changes the record found. -/
theorem find?_changeCard {f : CardRecord → CardRecord} (hf : ∀ q : CardRecord, (f q).serial = q.serial)
    (cs : List CardRecord) :
    ((changeCard x f cs).find? fun q => q.serial == x) = (cs.find? fun q => q.serial == x).map f := by
  induction cs with
  | nil => rfl
  | cons q cs ih =>
    rw [changeCard, List.map_cons]
    by_cases hq : q.serial = x
    · simp [hq, hf]
    · simp only [hq, if_false, List.find?_cons, beq_eq_false_iff_ne.2 hq]
      exact ih

/-- The table after a strike against `x`. -/
def State.struck (s : State) (x : Serial) : State := s.withCards (changeCard x CardRecord.strike s.ct.cards)

theorem State.find_struck (hfind : s.ct.find x = some r) : (s.struck x).ct.find x = some r.strike := by
  have hmap := find?_changeCard (x := x) (f := CardRecord.strike) (fun _ => rfl) s.ct.cards
  exact hmap.trans (congrArg (Option.map CardRecord.strike) hfind)

/-- R75: a first or second strike. -/
theorem State.countStrike_of_lt (hfind : s.ct.find x = some r) (h : r.strikes < 2) : s.countStrike x = s.struck x := by
  have hne : r.strike.strikes ≠ thirdStrike := by
    show min 3 (r.strikes + 1) ≠ 3
    omega
  have hfound : (s.withCards (changeCard x CardRecord.strike s.ct.cards)).ct.find x = some r.strike :=
    State.find_struck hfind
  simp only [State.countStrike, hfound, hne, if_false]
  rfl

/-- R63, R75, R76: a third strike lists the serial, and bars the card where it is ACTIVE. -/
theorem State.countStrike_of_third (hfind : s.ct.find x = some r) (h : 2 ≤ r.strikes) :
    (∀ j, r.state = .active j → s.countStrike x =
      ((s.struck x).withLists s.ct.hot (addAutobar x s.ct.autobar)).barCard j x 0) ∧
    ∀ n, r.state = .remembered n → s.countStrike x = (s.struck x).withLists s.ct.hot (addAutobar x s.ct.autobar) := by
  have heq : r.strike.strikes = thirdStrike := by
    show min 3 (r.strikes + 1) = 3
    omega
  have hfound : (s.withCards (changeCard x CardRecord.strike s.ct.cards)).ct.find x = some r.strike :=
    State.find_struck hfind
  have hstate : r.strike.state = r.state := rfl
  refine ⟨fun j hj => ?_, fun n hn => ?_⟩
  · simp only [State.countStrike, hfound, heq, if_true, hstate, hj]
    rfl
  · simp only [State.countStrike, hfound, heq, if_true, hstate, hn]
    rfl

end

/-- Settles O13: check 7 or 8 refuses, and the strike acts before the refusal is queued. -/
theorem strikesCountAndThirdBars : Obligations.StrikesCountAndThirdBars := by
  intro s i x batch units rest e r hrun hin hidle hopened hbatch hcurrent hface hunits hbar hfind struck after third
  have hcheck := State.cardCheck_of_known hidle hopened hbatch hcurrent hface hunits hbar hfind
  have hfind' : (s.rowTaken rest).ct.find x = some r := hfind
  refine ⟨fun j hj => ?active, fun n hn hrose => ?remembered⟩
  case active =>
    rw [if_pos (r.not_isRemembered_iff.2 ⟨j, hj⟩)] at hcheck
    rw [exec_cardIn_of_strike hrun hin hcheck rfl]
    refine ⟨fun hlt => ?_, fun hge => ?_⟩
    · rw [State.countStrike_of_lt hfind' hlt]; rfl
    · rw [(State.countStrike_of_third hfind' hge).1 j hj]; rfl
  case remembered =>
    have hremembered : ¬r.isRemembered = false := by simp [CardRecord.isRemembered, hn]
    rw [if_neg hremembered, if_pos hrose] at hcheck
    rw [exec_cardIn_of_strike hrun hin hcheck rfl]
    refine ⟨fun hlt => ?_, fun hge => ?_⟩
    · rw [State.countStrike_of_lt hfind' hlt]; rfl
    · rw [(State.countStrike_of_third hfind' hge).2 n hn]; rfl

/-! ## An outcome taken -/

section
variable (s : State) (i : StationId) (o : BurnOrder) (out : OrderOutcome)

/-- R88 steps 1 and 2, and the order deleted: the state in which the CC acts on an outcome. -/
def State.outcomeNoted : State := ((s.cardUpdate o out).countFailure i out).setOrder i none

theorem State.cardUpdate_de : (s.cardUpdate o out).de = s.de := by
  unfold State.cardUpdate
  split <;> rfl

/-- R88, R93: the station is taken out when the new count is 4. -/
theorem State.outcomeSteps_eq : s.outcomeSteps i o out =
    if out.failures (s.de.failures.get i) = 4 then ((s.outcomeNoted i o out).outcomeToCall i o out).takeOut i .stationFault
    else (s.outcomeNoted i o out).outcomeToCall i o out := by
  have hcount : ((s.cardUpdate o out).countFailure i out).de.failures.get i = out.failures (s.de.failures.get i) := by
    rw [State.countFailure_de, PerStation.get_set_same, State.cardUpdate_de]
  unfold State.outcomeSteps
  dsimp only
  rw [hcount]
  rfl

end

/-- Settles O31: the outcome is noted and handed to the call, and the new failure count decides what follows. -/
theorem outcomeTaken : Obligations.OutcomeTaken := by
  intro s i o out reported update cards count after
  have hcount : out.failures (s.de.failures.get i) = count := by cases out <;> rfl
  have hafter : (s.outcomeNoted i o out).outcomeToCall i o out = after := by
    have hnoted : s.outcomeNoted i o out = { s with
        ct := { s.ct with cards := cards },
        de := { s.de with failures := s.de.failures.set i count, orders := s.de.orders.set i none } } := by
      have hupdate : o.updateCard out = update := by cases out <;> rfl
      simp only [cards, ← hupdate, ← hcount, State.outcomeNoted, State.cardUpdate]
      split <;> rfl
    rw [hnoted]
  have hsteps := s.outcomeSteps_eq i o out
  rw [hcount, hafter] at hsteps
  refine ⟨fun h4 => ?_, fun h4 hout => ?_, fun now hfull => ?_⟩
  · rw [if_pos h4] at hsteps
    cases out with
    | full now => exact absurd h4 (by simp [count])
    | short b now => exact hsteps
    | undelivered => exact hsteps
    | timedOut => exact hsteps
  · rw [if_neg h4] at hsteps
    cases out with
    | full now => exact absurd rfl (hout now)
    | short b now => exact hsteps
    | undelivered => exact hsteps
    | timedOut => exact hsteps
  · subst hfull
    rw [if_neg (show ¬count = 4 by simp [count])] at hsteps
    rw [State.takeOutcome, hsteps]

/-! ## An entry judged -/

section
variable (s : State) (x : BankId) {α : Type} (e : EntryRead α) (repeats : Bank → α → Bool) (store : Option α → Bank → Bank)

/-- R104 step 1. -/
theorem State.writeBank_of_busy (h : (s.bank x).state = .active ∨ (s.bank x).state = .draining) :
    s.writeBank x e repeats store = (.bankBusy, s) := by
  have hbusy : (s.bank x).busy = true := by obtain h | h := h <;> simp [Bank.busy, h]
  simp [State.writeBank, hbusy]

/-- R104 steps 2 and 3, `dup` saying which content is a duplicate. -/
theorem State.writeBank_of_free {dup : α → Prop} [DecidablePred dup]
    (h : (s.bank x).state = .empty ∨ (s.bank x).state = .standby) (hdup : ∀ v, repeats (s.bank x) v = true ↔ dup v) :
    s.writeBank x e repeats store =
      match e with
      | .outOfRange => (.range, s)
      | .empty => (.done, s.setBank x (store none (s.bank x)).written)
      | .content v =>
        if dup v then (.duplicate, s) else (.done, s.setBank x (store (some v) (s.bank x)).written) := by
  have hfree : (s.bank x).busy = false := by obtain h | h := h <;> simp [Bank.busy, h]
  cases e with
  | outOfRange => simp [State.writeBank, hfree]
  | empty => simp [State.writeBank, hfree]
  | content v => simp [State.writeBank, hfree, hdup]

end

/-- Settles O43: each page by the rule of its table. -/
theorem entryJudgedAndStored : Obligations.EntryJudgedAndStored := by
  refine ⟨fun s h => ⟨State.barIfCovered h, rfl, fun t i => ⟨?covered, ?clear⟩⟩, rfl, fun s bytes => ?_⟩
  case covered =>
    intro r hr hactive hfirst hlast hone
    obtain ⟨q, hq, hqi, _, heq⟩ | ⟨_, hno⟩ := t.barIfCovered_cases h i
    · rw [heq, hone q hq hqi]
    · exact absurd ((h.covers_iff r.serial).2 ⟨hfirst, hlast⟩) (by simp [hno r hr hactive])
  case clear =>
    intro hno
    obtain ⟨q, hq, hqi, hcovers, _⟩ | ⟨heq, _⟩ := t.barIfCovered_cases h i
    · exact absurd ((h.covers_iff q.serial).1 hcovers) (hno q hq hqi)
    · exact heq
  refine ⟨fun page hsel => ?hot, fun hsel => ?batch, State.writeEntry_autobar (bytes := bytes), fun x => ⟨?busy, ?free⟩⟩
  case hot =>
    rw [State.writeEntry_hot hsel]
    cases readHot bytes <;> rfl
  case batch =>
    rw [State.writeEntry_batch hsel]
    cases readBatch bytes with
    | outOfRange => rfl
    | empty => rfl
    | content e => exact if_congr (by simp [SlotTable.otherHas_iff, State.slotAtPointer]) rfl rfl
  case busy =>
    intro hbusy
    exact ⟨fun page hsel => (State.writeEntry_prefixes hsel bytes).trans (s.writeBank_of_busy x _ _ _ hbusy),
      fun hsel => (State.writeEntry_bands hsel bytes).trans (s.writeBank_of_busy x _ _ _ hbusy),
      fun hsel => (State.writeEntry_calendar hsel bytes).trans (s.writeBank_of_busy x _ _ _ hbusy)⟩
  case free =>
    intro hfree
    refine ⟨fun page hsel => ?_, fun hsel => ?_, fun hsel => ?_⟩
    · rw [State.writeEntry_prefixes hsel, s.writeBank_of_free x _ _ _ hfree
        (dup := fun e => ∃ p ∈ (s.bank x).prefixes, p.1 ≠ s.slotAtPointer ∧ p.2.digits = e.digits)]
      · cases readPrefix bytes <;> rfl
      · simp [SlotTable.otherHas_iff]
    · rw [State.writeEntry_bands hsel, s.writeBank_of_free x _ _ _ hfree (dup := fun _ => False)]
      · cases readBand bytes <;> rfl
      · simp
    · rw [State.writeEntry_calendar hsel, s.writeBank_of_free x _ _ _ hfree
        (dup := fun e => ∃ p ∈ (s.bank x).calendar,
          p.1 ≠ s.slotAtPointer ∧ p.1 / 8 = s.slotAtPointer / 8 ∧ p.2.minute = e.minute)]
      · cases readCalendar bytes <;> rfl
      · simp [SlotTable.otherHas_iff]

/-! ## The lower bound and the price -/

section
variable (s : State) (x : Serial)

theorem State.mem_orders_iff (o : BurnOrder) : o ∈ s.de.orders.values.filterMap id ↔ ∃ j, s.order j = some o := by
  simp [List.mem_filterMap, PerStation.mem_values, State.order]

/-- R55: without an unsettled order of the serial. -/
theorem State.unsettledUnits_of_settled (h : ∀ j o, s.order j = some o → o.serial = x → o.settled = true) :
    s.de.unsettledUnits x = 0 := by
  have hfind : ((s.de.orders.values.filterMap id).find? fun o => o.serial == x && !o.settled) = none := by
    refine List.find?_eq_none.2 fun o ho => ?_
    obtain ⟨j, hj⟩ := (s.mem_orders_iff o).1 ho
    simpa using h j o hj
  simp only [DebitEngine.unsettledUnits, hfind]

/-- R55: with one. -/
theorem State.unsettledUnits_of_order {i : StationId} {o : BurnOrder} (ho : s.order i = some o) (hserial : o.serial = x)
    (hopen : o.settled = false) (hone : ∀ j p, s.order j = some p → p.serial = x → p.settled = false → p = o) :
    s.de.unsettledUnits x = o.units := by
  cases hfind : (s.de.orders.values.filterMap id).find? fun o => o.serial == x && !o.settled with
  | none => exact absurd (List.find?_eq_none.1 hfind o ((s.mem_orders_iff o).2 ⟨i, ho⟩)) (by simp [hserial, hopen])
  | some p =>
    obtain ⟨j, hj⟩ := (s.mem_orders_iff p).1 (List.mem_of_find?_eq_some hfind)
    have hp : p.serial = x ∧ p.settled = false := by simpa using List.find?_some hfind
    simp only [DebitEngine.unsettledUnits, hfind, hone j p hj hp.1 hp.2]

/-- R55: the bound of a card with a record. -/
theorem State.lowerBound_of_find {r : CardRecord} (h : s.ct.find x = some r) :
    s.lowerBound x = r.confirmed - s.de.unsettledUnits x := by
  simp only [State.lowerBound, h]

end

/-- Settles O26: the orders of the serial that the DE holds decide the bound, the entry read decides the price. -/
theorem lowerBoundAndPrice : Obligations.LowerBoundAndPrice := by
  refine ⟨fun s x r hfind => ⟨fun hsettled => ?_, fun i o ho hserial hopen hone => ?_⟩,
    fun s i => ⟨fun x hx => ?_, fun hnone => ?_⟩, fun s x band e hread => ?_⟩
  · rw [s.lowerBound_of_find x hfind, s.unsettledUnits_of_settled x hsettled, Nat.sub_zero]
  · rw [s.lowerBound_of_find x hfind, s.unsettledUnits_of_order x ho hserial hopen hone]
  · simp only [State.cardBound, hx]
  · simp only [State.cardBound, hnone]
  · have hprice : (s.bank x).price band (s.period x band) = e := by
      simp only [Bank.price, Bank.bandEntry, hread, Option.getD_some]
    exact ⟨hprice, hprice⟩

end Sys2Proof.Machine

/-! # Burn orders (04): tags held, retired and free -/

namespace Sys2Proof.Machine

/-! ## The next free tag -/

/-- The tags that are not free: held by an order, or retired (R79). -/
def DebitEngine.takenTags (d : DebitEngine) : List Nat := d.heldTags ++ d.retired.map Prod.snd

theorem DebitEngine.mem_heldTags (d : DebitEngine) (t : Nat) :
    t ∈ d.heldTags ↔ ∃ i o, d.orders.get i = some o ∧ o.tag = t := by
  simp only [DebitEngine.heldTags, List.mem_map, List.mem_filterMap, id, PerStation.mem_values]
  constructor
  · rintro ⟨o, ⟨_, ⟨i, rfl⟩, ho⟩, htag⟩
    exact ⟨i, o, ho, htag⟩
  · rintro ⟨i, o, ho, htag⟩
    exact ⟨o, ⟨_, ⟨i, rfl⟩, ho⟩, htag⟩

theorem DebitEngine.tagFree_iff (d : DebitEngine) (t : Nat) : d.tagFree t = true ↔ t ∉ d.takenTags := by
  have hheld : (d.orders.values.all fun o => match o with | some b => b.tag != t | none => true) = true ↔
      t ∉ d.heldTags := by
    rw [List.all_eq_true, DebitEngine.mem_heldTags]
    constructor
    · rintro hall ⟨i, o, ho, htag⟩
      have hne := hall _ ((PerStation.mem_values d.orders (some o)).2 ⟨i, ho⟩)
      simp [htag] at hne
    · intro hnone o ho
      obtain ⟨i, rfl⟩ := (PerStation.mem_values d.orders o).1 ho
      cases hget : d.orders.get i with
      | none => rfl
      | some b => simpa using fun htag => hnone ⟨i, b, hget, htag⟩
  have hretired : (d.retired.all fun p => p.2 != t) = true ↔ t ∉ d.retired.map Prod.snd := by
    simp only [List.all_eq_true, bne_iff_ne, List.mem_map, not_exists, not_and, ne_eq]
  rw [DebitEngine.takenTags, List.mem_append, not_or, ← hheld, ← hretired]
  exact Bool.and_eq_true _ _ ▸ Iff.rfl

/-- R79: the tag `k` advances after `t`; 1 follows 255. -/
theorem nextTag_iterate {t k : Nat} (h1 : 1 ≤ t) (h255 : t ≤ 255) (hk : k ≤ 255) :
    nextTag^[k] t = if t + k ≤ 255 then t + k else t + k - 255 := by
  induction k with
  | zero => simp [h255]
  | succ k ih =>
    rw [Function.iterate_succ_apply', ih (by omega), nextTag]
    split_ifs <;> omega

theorem nextTag_inRange {t : Nat} (h1 : 1 ≤ t) : 1 ≤ nextTag t ∧ nextTag t ≤ 255 := by
  unfold nextTag
  split <;> omega

/-- The search passes over taken tags only, and ends at a free one unless its fuel is spent. -/
theorem DebitEngine.searchTag_spec (d : DebitEngine) (fuel t : Nat) :
    ∃ k ≤ fuel, d.searchTag fuel t = nextTag^[k] t ∧ (∀ j < k, nextTag^[j] t ∈ d.takenTags) ∧
      (k < fuel → nextTag^[k] t ∉ d.takenTags) := by
  induction fuel generalizing t with
  | zero => exact ⟨0, le_rfl, rfl, nofun, nofun⟩
  | succ fuel ih =>
    unfold DebitEngine.searchTag
    split
    next hfree => exact ⟨0, Nat.zero_le _, rfl, nofun, fun _ => (d.tagFree_iff t).1 hfree⟩
    next htaken =>
      obtain ⟨k, hk, heq, hbefore, hlast⟩ := ih (nextTag t)
      refine ⟨k + 1, Nat.succ_le_succ hk, heq, fun j hj => ?_, fun hlt => hlast (Nat.lt_of_succ_lt_succ hlt)⟩
      cases j with
      | zero => exact not_not.1 ((d.tagFree_iff t).not.1 htaken)
      | succ j => exact hbefore j (Nat.lt_of_succ_lt_succ hj)

section
variable {d : DebitEngine} (h1 : 1 ≤ d.tagCounter) (h255 : d.tagCounter ≤ 255) (hroom : d.takenTags.length < 255)
include h1 h255 hroom

/-- R79: with fewer than 255 tags taken, the tag offered is free, and every tag passed over from the counter on is taken. -/
theorem DebitEngine.offeredTag_spec :
    ∃ k < 255, d.offeredTag = nextTag^[k] d.tagCounter ∧ (∀ j < k, nextTag^[j] d.tagCounter ∈ d.takenTags) ∧
      d.offeredTag ∉ d.takenTags := by
  obtain ⟨k, hk, heq, hbefore, hlast⟩ := d.searchTag_spec 255 d.tagCounter
  have hlt : k < 255 := by
    refine lt_of_le_of_ne hk fun hfull => ?_
    have hall : List.range' 1 255 ⊆ d.takenTags := fun n hn => by
      obtain ⟨hn1, hn255⟩ := List.mem_range'_1.1 hn
      have hreach : ∃ j < 255, nextTag^[j] d.tagCounter = n := by
        by_cases hle : d.tagCounter ≤ n
        · exact ⟨n - d.tagCounter, by omega, by rw [nextTag_iterate h1 h255 (by omega), if_pos (by omega)]; omega⟩
        · exact ⟨n + 255 - d.tagCounter, by omega, by
            rw [nextTag_iterate h1 h255 (by omega), if_neg (by omega)]; omega⟩
      obtain ⟨j, hj, rfl⟩ := hreach
      exact hbefore j (hfull ▸ hj)
    have hlen := ((List.nodup_range' (step := 1)).subperm hall).length_le
    rw [List.length_range'] at hlen
    omega
  exact ⟨k, hlt, heq, hbefore, by rw [DebitEngine.offeredTag, heq]; exact hlast hlt⟩

theorem DebitEngine.offeredTag_inRange : 1 ≤ d.offeredTag ∧ d.offeredTag ≤ 255 := by
  obtain ⟨k, hk, heq, _⟩ := DebitEngine.offeredTag_spec h1 h255 hroom
  rw [heq, nextTag_iterate h1 h255 hk.le]
  split_ifs <;> omega

theorem DebitEngine.offeredTag_not_mem : d.offeredTag ∉ d.takenTags := by
  obtain ⟨_, _, _, _, hfree⟩ := DebitEngine.offeredTag_spec h1 h255 hroom
  exact hfree

/-- R79: the tags from the counter up to the one offered, 255 followed by 1, are taken. -/
theorem DebitEngine.mem_takenTags_of_passed {n : Nat} (hn1 : 1 ≤ n) (hn255 : n ≤ 255)
    (h : d.tagCounter ≤ n ∧ (n < d.offeredTag ∨ d.offeredTag < d.tagCounter) ∨
      n < d.tagCounter ∧ n < d.offeredTag ∧ d.offeredTag < d.tagCounter) : n ∈ d.takenTags := by
  obtain ⟨k, hk, heq, hbefore, _⟩ := DebitEngine.offeredTag_spec h1 h255 hroom
  rw [heq, nextTag_iterate h1 h255 hk.le] at h
  by_cases hle : d.tagCounter ≤ n
  · have hn : nextTag^[n - d.tagCounter] d.tagCounter = n := by
      rw [nextTag_iterate h1 h255 (by omega), if_pos (by omega)]; omega
    rw [← hn]
    exact hbefore _ (by split_ifs at h <;> omega)
  · have hn : nextTag^[n + 255 - d.tagCounter] d.tagCounter = n := by
      rw [nextTag_iterate h1 h255 (by omega), if_neg (by omega)]; omega
    rw [← hn]
    exact hbefore _ (by split_ifs at h <;> omega)

end

/-! ## BURN frames queued, SENDING orders and retired pairs -/

/-- The station and tag of a BURN frame. -/
def RowOutFrame.burnPair (f : RowOutFrame) : Option (StationId × Nat) :=
  match f.dest, f.msg with
  | .station i, .burn t _ _ => some (i, t)
  | _, _ => none

theorem RowLine.burnPairs_eq (r : RowLine) : r.burnPairs = r.outbound.filterMap RowOutFrame.burnPair := rfl

theorem RowOutFrame.burnPair_eq_some_iff (f : RowOutFrame) (i : StationId) (t : Nat) :
    f.burnPair = some (i, t) ↔ f.dest = .station i ∧ ∃ x u, f.msg = .burn t x u := by
  obtain ⟨dest, msg, producer⟩ := f
  cases dest <;> cases msg <;> simp [RowOutFrame.burnPair]

theorem RowOutFrame.burnPair_eq_none_iff (f : RowOutFrame) :
    f.burnPair = none ↔ ∀ i t x u, ¬(f.dest = .station i ∧ f.msg = .burn t x u) := by
  obtain ⟨dest, msg, producer⟩ := f
  cases dest <;> cases msg <;> simp [RowOutFrame.burnPair]

/-- The station and tag of an order in SENDING. -/
def sendingPair (i : StationId) (o : Option BurnOrder) : Option (StationId × Nat) :=
  match o with
  | some b => if b.state = .sending then some (i, b.tag) else none
  | none => none

theorem State.sendingPairs_eq (s : State) : s.sendingPairs = stationIds.filterMap fun i => sendingPair i (s.order i) := rfl

theorem DebitEngine.heldTags_eq (d : DebitEngine) :
    d.heldTags = stationIds.filterMap fun i => (d.orders.get i).map BurnOrder.tag := by
  rw [DebitEngine.heldTags, PerStation.values_eq, List.map_filterMap, List.filterMap_map]
  rfl

theorem sendingPair_of_sending {i : StationId} {o : BurnOrder} (h : o.state = .sending) :
    sendingPair i (some o) = some (i, o.tag) := if_pos h

theorem sendingPair_of_not_sending {i : StationId} {o : BurnOrder} (h : o.state ≠ .sending) :
    sendingPair i (some o) = none := if_neg h

theorem State.mem_sendingPairs (s : State) (i : StationId) (t : Nat) :
    (i, t) ∈ s.sendingPairs ↔ ∃ o, s.order i = some o ∧ o.tag = t ∧ o.state = .sending := by
  rw [State.sendingPairs_eq, List.mem_filterMap]
  constructor
  · rintro ⟨j, _, hj⟩
    cases ho : s.order j with
    | none => rw [ho] at hj; cases hj
    | some o =>
      rw [ho] at hj
      by_cases hs : o.state = .sending
      · rw [sendingPair_of_sending hs, Option.some.injEq, Prod.mk.injEq] at hj
        obtain ⟨rfl, htag⟩ := hj
        exact ⟨o, ho, htag, hs⟩
      · rw [sendingPair_of_not_sending hs] at hj; cases hj
  · rintro ⟨o, ho, rfl, hs⟩
    exact ⟨i, mem_stationIds i, by rw [ho, sendingPair_of_sending hs]⟩

/-- R79, R85: the BURN frames queued are those of the SENDING orders and of the retired pairs; the tags held or retired
are distinct and 1 to 255. -/
structure TagsAgree (burns sending retired : List (StationId × Nat)) (held : List Nat) : Prop where
  perm : burns.Perm (sending ++ retired)
  nodup : (held ++ retired.map Prod.snd).Nodup
  inRange : ∀ t ∈ held ++ retired.map Prod.snd, 1 ≤ t ∧ t ≤ 255

section
variable {burns sending retired : List (StationId × Nat)} {held : List Nat} {i : StationId} {t : Nat}

/-- The order of SENDING pairs and held tags says nothing. -/
theorem TagsAgree.congr {sending' : List (StationId × Nat)} {held' : List Nat} (h : TagsAgree burns sending retired held)
    (hs : sending.Perm sending') (hh : held.Perm held') : TagsAgree burns sending' retired held' :=
  ⟨h.perm.trans (hs.append_right _), (hh.append_right _).nodup_iff.1 h.nodup,
    fun t ht => h.inRange t ((hh.append_right _).mem_iff.2 ht)⟩

/-- R79, R80: an order is issued under a free tag, and its frame queued. -/
theorem TagsAgree.issue (h : TagsAgree burns sending retired held) (hfree : t ∉ held ++ retired.map Prod.snd)
    (ht : 1 ≤ t ∧ t ≤ 255) : TagsAgree (burns ++ [(i, t)]) ((i, t) :: sending) retired (t :: held) :=
  ⟨(List.perm_append_singleton _ _).trans (h.perm.cons _), List.nodup_cons.2 ⟨hfree, h.nodup⟩,
    List.forall_mem_cons.2 ⟨ht, h.inRange⟩⟩

/-- R81: the frame of a SENDING order is delivered; the order waits for its reply. -/
theorem TagsAgree.deliver (h : TagsAgree ((i, t) :: burns) ((i, t) :: sending) retired held) :
    TagsAgree burns sending retired held :=
  ⟨h.perm.cons_inv, h.nodup, h.inRange⟩

/-- R83: the frame of a retired pair leaves the queue. -/
theorem TagsAgree.forget (h : TagsAgree ((i, t) :: burns) sending retired held) (hno : (i, t) ∉ sending) :
    TagsAgree burns sending (retired.erase (i, t)) held := by
  have hmem : (i, t) ∈ retired := (List.mem_append.1 (h.perm.mem_iff.1 List.mem_cons_self)).resolve_left hno
  have hsub : (held ++ (retired.erase (i, t)).map Prod.snd).Sublist (held ++ retired.map Prod.snd) :=
    (List.Sublist.refl held).append (List.erase_sublist.map _)
  have hperm : ((i, t) :: burns).Perm ((i, t) :: (sending ++ retired.erase (i, t))) :=
    h.perm.trans (((List.perm_cons_erase hmem).append_left _).trans List.perm_middle)
  exact ⟨hperm.cons_inv, h.nodup.sublist hsub, fun u hu => h.inRange u (hsub.subset hu)⟩

/-- R88: an order that is not SENDING is deleted. -/
theorem TagsAgree.release (h : TagsAgree burns sending retired (t :: held)) : TagsAgree burns sending retired held :=
  ⟨h.perm, (List.nodup_cons.1 h.nodup).2, (List.forall_mem_cons.1 h.inRange).2⟩

/-- R85: a SENDING order is answered: it is deleted, and its tag retired while its frame is queued. -/
theorem TagsAgree.retire (h : TagsAgree burns ((i, t) :: sending) retired (t :: held)) :
    TagsAgree burns sending (retired ++ [(i, t)]) held := by
  have htags : (t :: held ++ retired.map Prod.snd).Perm (held ++ (retired ++ [(i, t)]).map Prod.snd) := by
    rw [List.map_append, ← List.append_assoc]
    exact (List.perm_append_singleton t (held ++ retired.map Prod.snd)).symm
  refine ⟨h.perm.trans ?_, htags.nodup_iff.1 h.nodup, fun u hu => h.inRange u (htags.mem_iff.2 hu)⟩
  rw [← List.append_assoc]
  exact (List.perm_append_singleton (i, t) (sending ++ retired)).symm

end

/-! ## One station's order and those of the others -/

/-- What the stations hold, the one at `i` first. -/
theorem filterMap_stationIds_perm {α : Type} (f : StationId → Option α) (i : StationId) :
    (stationIds.filterMap f).Perm ((f i).toList ++ (stationIds.erase i).filterMap f) := by
  refine ((List.perm_cons_erase (mem_stationIds i)).filterMap f).trans ?_
  rw [List.filterMap_cons]
  cases f i <;> exact .refl _

/-- The SENDING pairs of the orders of all stations but `i`. -/
def DebitEngine.sendingElsewhere (d : DebitEngine) (i : StationId) : List (StationId × Nat) :=
  (stationIds.erase i).filterMap fun j => sendingPair j (d.orders.get j)

/-- The tags of the orders of all stations but `i`. -/
def DebitEngine.heldElsewhere (d : DebitEngine) (i : StationId) : List Nat :=
  (stationIds.erase i).filterMap fun j => (d.orders.get j).map BurnOrder.tag

/-- The tags agree with `o` for the order of station `i`. -/
def DebitEngine.TagsAgreeWith (d : DebitEngine) (i : StationId) (o : Option BurnOrder)
    (burns retired : List (StationId × Nat)) : Prop :=
  TagsAgree burns ((sendingPair i o).toList ++ d.sendingElsewhere i) retired
    ((o.map BurnOrder.tag).toList ++ d.heldElsewhere i)

section
variable {s t : State} {i : StationId} {burns retired : List (StationId × Nat)}

theorem DebitEngine.tagsAgreeWith_order (h : TagsAgree burns s.sendingPairs retired s.de.heldTags) (i : StationId) :
    s.de.TagsAgreeWith i (s.order i) burns retired := by
  rw [DebitEngine.heldTags_eq] at h
  exact h.congr (filterMap_stationIds_perm _ i) (filterMap_stationIds_perm _ i)

/-- When only the order of station `i` has changed, to `o`. -/
theorem DebitEngine.TagsAgreeWith.tagsAgree {o : Option BurnOrder} (h : s.de.TagsAgreeWith i o burns retired)
    (horders : t.de.orders = s.de.orders.set i o) : TagsAgree burns t.sendingPairs retired t.de.heldTags := by
  have hsame : t.de.orders.get i = o := by rw [horders, PerStation.get_set_same]
  have hothers : ∀ j ∈ stationIds.erase i, t.de.orders.get j = s.de.orders.get j := fun j hj => by
    rw [horders, PerStation.get_set_other _ _ _ _ (stationIds_nodup.mem_erase_iff.1 hj).1]
  have hsending : t.de.sendingElsewhere i = s.de.sendingElsewhere i :=
    List.filterMap_congr fun j hj => by rw [hothers j hj]
  have hheld : t.de.heldElsewhere i = s.de.heldElsewhere i := List.filterMap_congr fun j hj => by rw [hothers j hj]
  rw [DebitEngine.TagsAgreeWith, ← hsending, ← hheld, ← hsame] at h
  rw [DebitEngine.heldTags_eq]
  exact h.congr (filterMap_stationIds_perm (fun j => sendingPair j (t.order j)) i).symm
    (filterMap_stationIds_perm (fun j => (t.de.orders.get j).map BurnOrder.tag) i).symm

end

end Sys2Proof.Machine

/-! # Burn orders (04): what keeps the tags legal -/

namespace Sys2Proof.Machine

/-! ## Stations that may hold an order -/

/-- R78, R20: the DE may hold an order for a station in TALK, or in CLEARING with order resolved not true. -/
def StationRecord.MayOwe (r : StationRecord) : Prop :=
  r.state = .talk ∨ (r.state = .clearing ∧ r.context.map (·.orderResolved) ≠ some (some true))

/-- State and order resolved decide. -/
theorem StationRecord.MayOwe.of_eq {r q : StationRecord} (h : r.MayOwe) (hstate : q.state = r.state)
    (hcontext : q.context.map (·.orderResolved) = r.context.map (·.orderResolved)) : q.MayOwe := by
  simpa only [StationRecord.MayOwe, hstate, hcontext] using h

/-- R20: a clear that starts while an order is held. -/
theorem StationRecord.mayOwe_cleared (r : StationRecord) (now : Nat) (c : EndCause) (released : Bool) :
    (r.cleared now c released false).MayOwe := by
  refine .inr ⟨rfl, ?_⟩
  cases hctx : r.context <;> simp [StationRecord.cleared, CallContext.cleared, hctx]

section
variable {s t : State}

theorem State.tagsLegal_iff (s : State) : s.TagsLegal ↔
    (∀ i, s.order i ≠ none → (s.station i).MayOwe) ∧ s.rlc.outbound.length ≤ rowOutboundRoom ∧
      (1 ≤ s.de.tagCounter ∧ s.de.tagCounter ≤ 255) ∧
      TagsAgree s.rlc.burnPairs s.sendingPairs s.de.retired s.de.heldTags := by
  constructor
  · rintro ⟨hcalls, hperm, hroom, hnodup, hcounter, hrange⟩
    exact ⟨hcalls, hroom, hcounter, hperm, hnodup, hrange⟩
  · rintro ⟨hcalls, hroom, hcounter, hperm, hnodup, hrange⟩
    exact ⟨hcalls, hperm, hroom, hnodup, hcounter, hrange⟩

theorem State.TagsLegal.mayOwe (h : s.TagsLegal) {i : StationId} (ho : s.order i ≠ none) : (s.station i).MayOwe := h.1 i ho

theorem State.TagsLegal.tagsAgree (h : s.TagsLegal) :
    TagsAgree s.rlc.burnPairs s.sendingPairs s.de.retired s.de.heldTags := by
  obtain ⟨_, _, _, htags⟩ := s.tagsLegal_iff.1 h
  exact htags

/-- R78: no order is held outside TALK and CLEARING. -/
theorem State.TagsLegal.order_eq_none (h : s.TagsLegal) {i : StationId} (htalk : (s.station i).state ≠ .talk)
    (hclearing : (s.station i).state ≠ .clearing) : s.order i = none := by
  by_contra ho
  obtain hs | ⟨hs, _⟩ := h.mayOwe ho
  · exact htalk hs
  · exact hclearing hs

/-- R20: no order is held in CLEARING with order resolved true. -/
theorem State.TagsLegal.order_eq_none_of_resolved (h : s.TagsLegal) {i : StationId} {x : CallContext}
    (hclearing : (s.station i).state = .clearing) (hctx : (s.station i).context = some x)
    (hresolved : x.orderResolved = some true) : s.order i = none := by
  by_contra ho
  obtain hs | ⟨_, hs⟩ := h.mayOwe ho
  · rw [hclearing] at hs; cases hs
  · exact hs (by rw [hctx, Option.map_some, hresolved])

/-- Fewer than 255 tags are taken: 48 at most are held, and a retired pair has its BURN frame queued. -/
theorem State.TagsLegal.takenTags_length (h : s.TagsLegal) : s.de.takenTags.length < 255 := by
  obtain ⟨_, hroom, _, htags⟩ := s.tagsLegal_iff.1 h
  have hheld : s.de.heldTags.length ≤ 48 := by
    rw [DebitEngine.heldTags, List.length_map]
    exact (List.length_filterMap_le _ _).trans s.de.orders.size.le
  have hburns : s.rlc.burnPairs.length ≤ 64 := (List.length_filterMap_le _ _).trans hroom
  have hretired := htags.perm.length_eq
  rw [List.length_append] at hretired
  rw [DebitEngine.takenTags, List.length_append, List.length_map]
  omega

/-- No order, tag or outbound row frame changes, and a station that holds an order may go on holding it. -/
theorem State.TagsLegal.of_frame (h : s.TagsLegal) (hout : t.rlc.outbound = s.rlc.outbound)
    (horders : t.de.orders = s.de.orders) (hretired : t.de.retired = s.de.retired)
    (hcounter : t.de.tagCounter = s.de.tagCounter)
    (hst : ∀ i, s.order i ≠ none → (s.station i).MayOwe → (t.station i).MayOwe) : t.TagsLegal := by
  obtain ⟨hcalls, hroom, hrange, htags⟩ := s.tagsLegal_iff.1 h
  have horder : ∀ i, t.order i = s.order i := fun i => by simp only [State.order, horders]
  refine t.tagsLegal_iff.2 ⟨fun i ho => ?_, hout ▸ hroom, hcounter ▸ hrange, ?_⟩
  · rw [horder] at ho
    exact hst i ho (hcalls i ho)
  · simpa only [RowLine.burnPairs_eq, State.sendingPairs_eq, DebitEngine.heldTags, hout, horder, horders, hretired]
      using htags

/-- No order, tag, outbound row frame or station changes. -/
theorem State.TagsLegal.of_same (h : s.TagsLegal) (hout : t.rlc.outbound = s.rlc.outbound) (hde : t.de = s.de)
    (hcc : t.cc = s.cc) : t.TagsLegal :=
  h.of_frame hout (by rw [hde]) (by rw [hde]) (by rw [hde]) fun i _ hi => by rwa [State.station, hcc]

/-- The order of station `i` becomes `o`, with whatever that does to the BURN frames and the retired pairs. -/
theorem State.TagsLegal.of_order (h : s.TagsLegal) (i : StationId) (o : Option BurnOrder)
    (horders : t.de.orders = s.de.orders.set i o) (hcc : t.cc = s.cc) (hmay : o ≠ none → (s.station i).MayOwe)
    (hroom : t.rlc.outbound.length ≤ rowOutboundRoom) (hcounter : 1 ≤ t.de.tagCounter ∧ t.de.tagCounter ≤ 255)
    (htags : s.de.TagsAgreeWith i o t.rlc.burnPairs t.de.retired) : t.TagsLegal := by
  have hstation : ∀ j, t.station j = s.station j := fun j => by simp only [State.station, hcc]
  refine t.tagsLegal_iff.2 ⟨fun j hj => ?_, hroom, hcounter, htags.tagsAgree horders⟩
  rw [hstation]
  by_cases hji : j = i
  · subst hji
    rw [State.order, horders, PerStation.get_set_same] at hj
    exact hmay hj
  · rw [State.order, horders, PerStation.get_set_other _ _ _ _ hji] at hj
    exact h.mayOwe hj

/-- No order is held, no tag retired and no row frame queued. -/
theorem State.tagsLegal_of_empty (horders : t.de.orders = PerStation.fill none) (hretired : t.de.retired = [])
    (hout : t.rlc.outbound = []) (hcounter : 1 ≤ t.de.tagCounter ∧ t.de.tagCounter ≤ 255) : t.TagsLegal := by
  have horder : ∀ i, t.order i = none := fun i => by rw [State.order, horders, PerStation.get_fill]
  have hsending : t.sendingPairs = [] := List.filterMap_eq_nil_iff.2 fun i _ => by rw [horder]
  have hheld : t.de.heldTags = [] := by
    rw [DebitEngine.heldTags_eq]
    exact List.filterMap_eq_nil_iff.2 fun i _ => by rw [horders, PerStation.get_fill, Option.map_none]
  refine t.tagsLegal_iff.2 ⟨fun i hi => absurd (horder i) hi, by simp [hout], hcounter, ?_⟩
  rw [RowLine.burnPairs_eq, hout, hsending, hretired, hheld]
  exact ⟨.refl _, .nil, nofun⟩

end

/-! ## Updates of the state -/

section
variable {s : State} (h : s.TagsLegal) (i : StationId)
include h

theorem State.TagsLegal.refreshAttn : s.refreshAttn.TagsLegal := h.of_same rfl rfl rfl

theorem State.TagsLegal.withCards (cs : List CardRecord) : (s.withCards cs).TagsLegal := h.of_same rfl rfl rfl

theorem State.TagsLegal.cards (c : CardTable) : { s with ct := c }.TagsLegal := h.of_same rfl rfl rfl

theorem State.TagsLegal.records (q : RecordQueue) : { s with rq := q }.TagsLegal := h.of_same rfl rfl rfl

theorem State.TagsLegal.clock (b : TimeBase) : { s with tb := b }.TagsLegal := h.of_same rfl rfl rfl

theorem State.TagsLegal.xlc (x : ExchangeLink) : { s with xlc := x }.TagsLegal := h.of_same rfl rfl rfl

theorem State.TagsLegal.mu (m : Management) : { s with mu := m }.TagsLegal := h.of_same rfl rfl rfl

theorem State.TagsLegal.setBank (x : BankId) (b : Bank) : (s.setBank x b).TagsLegal := h.of_same rfl rfl rfl

theorem State.TagsLegal.offerLink (m : LinkMsg) : (s.offerLink m).TagsLegal := h.of_same rfl rfl rfl

theorem State.TagsLegal.advancePointer : s.advancePointer.TagsLegal := h.of_same rfl rfl rfl

/-- The row line changes, but for its outbound queue. -/
theorem State.TagsLegal.rlc (r : RowLine) (hout : r.outbound = s.rlc.outbound) : { s with rlc := r }.TagsLegal :=
  h.of_same hout rfl rfl

/-- R92: a failure count is no tag. -/
theorem State.TagsLegal.failures (v : PerStation Nat) : { s with de := { s.de with failures := v } }.TagsLegal :=
  h.of_frame rfl rfl rfl rfl fun _ _ => id

theorem State.TagsLegal.counter (n : Nat) (hn : 1 ≤ n ∧ n ≤ 255) :
    { s with de := { s.de with tagCounter := n } }.TagsLegal := by
  obtain ⟨hcalls, hroom, _, htags⟩ := s.tagsLegal_iff.1 h
  exact (State.tagsLegal_iff _).2 ⟨hcalls, hroom, hn, htags⟩

/-- Every order is changed in place, its tag and whether it is SENDING kept. -/
theorem State.TagsLegal.mapOrders (f : BurnOrder → BurnOrder) (htag : ∀ o : BurnOrder, (f o).tag = o.tag)
    (hstate : ∀ o : BurnOrder, (f o).state = .sending ↔ o.state = .sending) :
    { s with de := { s.de with orders := s.de.orders.map (Option.map f) } }.TagsLegal := by
  obtain ⟨hcalls, hroom, hcounter, htags⟩ := s.tagsLegal_iff.1 h
  have hsending : ∀ j o, sendingPair j (Option.map f o) = sendingPair j o := fun j o => by
    cases o with
    | none => rfl
    | some o => simp only [Option.map_some, sendingPair, hstate, htag]
  refine (State.tagsLegal_iff _).2 ⟨fun j hj => hcalls j fun hnone => hj ?_, hroom, hcounter, ?_⟩
  · rw [State.order] at hnone ⊢
    rw [PerStation.get_map, hnone, Option.map_none]
  · rw [DebitEngine.heldTags_eq, State.sendingPairs_eq] at htags ⊢
    simpa only [State.order, PerStation.get_map, hsending, Option.map_map, Function.comp_def, htag] using htags

/-- R154: a frame other than BURN is offered. -/
theorem State.TagsLegal.offerRow (f : RowOutFrame) (hf : f.burnPair = none) : (s.offerRow f).TagsLegal := by
  obtain ⟨hcalls, hroom, hcounter, htags⟩ := s.tagsLegal_iff.1 h
  have hburns : (s.rlc.offer f).burnPairs = s.rlc.burnPairs := by
    by_cases hr : s.rlc.outbound.length < rowOutboundRoom
    · rw [RowLine.offer_of_room _ _ hr, RowLine.burnPairs_eq, List.filterMap_append, List.filterMap_cons, hf]
      exact List.append_nil _
    · rw [RowLine.offer_of_full _ _ (Nat.le_of_not_lt hr)]
  refine (State.tagsLegal_iff _).2 ⟨hcalls, s.rlc.offer_length f hroom, hcounter, ?_⟩
  rw [State.offerRow_rlc, hburns]
  exact htags

theorem State.TagsLegal.tellStation (m : RowMsg) (hm : ∀ t x u, m ≠ .burn t x u) : (s.tellStation i m).TagsLegal :=
  h.offerRow _ ((RowOutFrame.burnPair_eq_none_iff _).2 fun _ t x u ⟨_, hburn⟩ => hm t x u hburn)

theorem State.TagsLegal.tellCard (m : RowMsg) (hm : ∀ t x u, m ≠ .burn t x u) : (s.tellCard i m).TagsLegal :=
  h.offerRow _ ((RowOutFrame.burnPair_eq_none_iff _).2 fun _ t x u ⟨_, hburn⟩ => hm t x u hburn)

/-- A station record is replaced by one that may hold the order, if there is one. -/
theorem State.TagsLegal.setStation (r : StationRecord) (hr : s.order i ≠ none → (s.station i).MayOwe → r.MayOwe) :
    (s.setStation i r).TagsLegal := by
  refine h.of_frame rfl rfl rfl rfl fun j ho hj => ?_
  rw [State.setStation_station]
  split
  next hji => subst hji; exact hr ho hj
  next => exact hj

theorem State.TagsLegal.mapStation (f : StationRecord → StationRecord)
    (hf : s.order i ≠ none → (s.station i).MayOwe → (f (s.station i)).MayOwe) : (s.mapStation i f).TagsLegal :=
  h.setStation i _ hf

theorem State.TagsLegal.mapContext (f : CallContext → CallContext)
    (hf : s.order i ≠ none → ∀ x, (f x).orderResolved = x.orderResolved) : (s.mapContext i f).TagsLegal := by
  refine h.mapStation i _ fun ho hr => hr.of_eq rfl ?_
  simp only [Option.map_map, Function.comp_def, hf ho]

/-! ## Clearing -/

theorem State.TagsLegal.removeCard : (s.removeCard i).TagsLegal := by
  unfold State.removeCard
  split
  next => exact (h.withCards _).mapStation i _ fun _ => id
  next => exact h

omit h in
theorem State.removeCard_de : (s.removeCard i).de = s.de := by
  unfold State.removeCard
  split <;> rfl

/-- R21: a clear completes when no order is held. -/
theorem State.TagsLegal.complete (x : CallContext) (ho : s.order i = none) : (s.complete i x).TagsLegal := by
  have hstored : ((s.storeRecord i x).unpinBank x.bank).TagsLegal := h.of_same rfl rfl rfl
  unfold State.complete
  dsimp only
  split
  next =>
    refine (hstored.removeCard i).mapStation i _ fun hheld => absurd ?_ hheld
    rw [State.order, State.removeCard_de]
    exact ho
  next => exact hstored.mapStation i _ fun hheld => absurd ho hheld

theorem State.TagsLegal.completeIfDone : (s.completeIfDone i).TagsLegal := by
  obtain heq | ⟨x, hclearing, hctx, _, hresolved, heq⟩ := s.completeIfDone_cases i <;> rw [heq]
  · exact h
  · exact h.complete i x (h.order_eq_none_of_resolved hclearing hctx hresolved)

/-- R15, R20: order resolved says whether an order is held. -/
theorem State.TagsLegal.cleared (c : EndCause) (released : Bool) :
    (s.mapStation i (StationRecord.cleared s.elapsed c released (s.orderFree i))).TagsLegal := by
  refine h.mapStation i _ fun ho _ => ?_
  rw [State.orderFree, Option.isNone_eq_false_iff.2 (Option.isSome_iff_ne_none.2 ho)]
  exact StationRecord.mayOwe_cleared _ _ _ _

theorem State.TagsLegal.startClear (c : EndCause) : (s.startClear i c).TagsLegal :=
  (((h.cleared i c _).offerLink _).tellStation i (.callEnded c) nofun).completeIfDone i

theorem State.TagsLegal.clearLinkDown : (s.clearLinkDown i).TagsLegal :=
  ((h.cleared i _ _).tellStation i (.callEnded .linkDown) nofun).completeIfDone i

theorem State.TagsLegal.exchangeClear (x : Byte) : (s.exchangeClear i x).TagsLegal :=
  (((h.cleared i _ _).offerLink _).tellStation i (.callEnded (.exchangeClear x)) nofun).completeIfDone i

theorem State.TagsLegal.releaseCall : (s.releaseCall i).TagsLegal := by
  unfold State.releaseCall
  split
  next =>
    split
    next => exact h
    next =>
      refine (h.mapStation i StationRecord.released fun _ hr => hr.of_eq rfl ?_).completeIfDone i
      simp only [StationRecord.released, Option.map_map, Function.comp_def]
  next => exact h

theorem State.TagsLegal.linkDownStation : (s.linkDownStation i).TagsLegal := by
  unfold State.linkDownStation
  split
  next => exact h.clearLinkDown i
  next => exact h.clearLinkDown i
  next => exact h.releaseCall i
  all_goals exact h

/-! ## Stations without a call -/

/-- A station that is in no call changes as it will. -/
theorem State.TagsLegal.mapStation_idle (f : StationRecord → StationRecord) (htalk : (s.station i).state ≠ .talk)
    (hclearing : (s.station i).state ≠ .clearing) : (s.mapStation i f).TagsLegal :=
  h.mapStation i f fun ho => absurd (h.order_eq_none htalk hclearing) ho

/-- R56: the card of a station leaves, and the station goes on. -/
theorem State.TagsLegal.removeCard_mapStation (f : StationRecord → StationRecord) (htalk : (s.station i).state ≠ .talk)
    (hclearing : (s.station i).state ≠ .clearing) : ((s.removeCard i).mapStation i f).TagsLegal := by
  refine (h.removeCard i).mapStation i f fun ho => absurd ?_ ho
  rw [State.order, State.removeCard_de]
  exact h.order_eq_none htalk hclearing

/-! ## Out of service -/

theorem State.TagsLegal.takeOut (r : OutReason) : (s.takeOut i r).TagsLegal := by
  unfold State.takeOut
  split
  next hs => exact (h.mapStation_idle i _ (by simp [hs]) (by simp [hs])).tellStation i _ nofun
  next hs => exact (h.removeCard_mapStation i _ (by simp [hs]) (by simp [hs])).tellStation i _ nofun
  next => exact ((h.mapStation i _ fun _ hr => hr).startClear i _).tellStation i _ nofun
  next => exact ((h.mapStation i _ fun _ hr => hr).startClear i _).tellStation i _ nofun
  next =>
    refine State.TagsLegal.tellStation (h.mapStation i _ fun _ hr => ?_) i _ nofun
    split <;> exact hr
  next => exact h

theorem State.TagsLegal.putInService : (s.putInService i).TagsLegal := by
  unfold State.putInService
  split
  next hs => exact ((h.mapStation_idle i _ (by simp [hs]) (by simp [hs])).failures _).tellStation i _ nofun
  next => exact h

theorem State.TagsLegal.setMode (k : Nat) (m : Mode) : (s.setMode i k m).TagsLegal := by
  have hcls := h.mapStation i (fun r => { r with cls := k }) fun _ hr => hr
  cases m with
  | into => exact hcls.putInService i
  | out => exact hcls.takeOut i .takenOut

/-! ## Barring and admission of cards -/

theorem State.TagsLegal.lostToBar : (s.lostToBar i).TagsLegal := by
  unfold State.lostToBar
  split
  next hs => exact h.mapStation_idle i _ (by simp [hs]) (by simp [hs])
  next => exact h.startClear i _
  next => exact h.startClear i _
  all_goals exact h

theorem State.TagsLegal.barCard (x : Serial) (c : Byte) : (s.barCard i x c).TagsLegal :=
  (((h.withCards _).tellCard i (.cardRefused (.barred c)) nofun).mapStation i (fun t => { t with card := none })
    fun _ hr => hr).lostToBar i

/-- What every turn keeps, all in turn do. -/
theorem State.TagsLegal.foldl {f : State → StationId → State}
    (hf : ∀ {u : State}, u.TagsLegal → ∀ i, (f u i).TagsLegal) (l : List StationId) : (l.foldl f s).TagsLegal :=
  List.foldlRecOn l f h fun _ hu i _ => hf hu i

theorem State.TagsLegal.barRange (r : HotRange) : (s.barRange r).TagsLegal := by
  refine h.foldl (fun {u} hu i => ?_) stationIds
  obtain ⟨_, _, _, _, heq⟩ | ⟨heq, _⟩ := u.barIfCovered_cases r i <;> rw [heq]
  · exact hu.barCard i _ _
  · exact hu

theorem State.TagsLegal.countStrike (x : Serial) : (s.countStrike x).TagsLegal := by
  have hstruck := h.withCards (changeCard x CardRecord.strike s.ct.cards)
  unfold State.countStrike
  dsimp only
  split
  next =>
    split
    next =>
      split
      next => exact (hstruck.cards _).barCard _ x 0
      next => exact hstruck.cards _
    next => exact hstruck
  next => exact hstruck

/-- R71, R90: the orders of the card are settled, its station IDLE so far. -/
theorem State.TagsLegal.acceptCard (x : Serial) (batch units : Nat) (hidle : (s.station i).state = .idle) :
    (s.acceptCard i x batch units).TagsLegal := by
  have hsettled := (h.withCards (activateCard i x batch units s.ct.cards)).mapOrders
    (fun b => if b.serial = x then { b with settled := true } else b) (fun b => by split <;> rfl) (fun b => by split <;> rfl)
  have hstate : ∀ c, c ≠ .idle → (s.station i).state ≠ c := fun c hc hs => hc (hs.symm.trans hidle)
  exact (hsettled.mapStation_idle i (fun r => { r with card := some x, state := .ready }) (hstate _ nofun)
    (hstate _ nofun)).tellCard i (.cardOk units) nofun

theorem State.TagsLegal.judgeCard (x : Serial) (batch units : Nat) : (s.judgeCard i x batch units).TagsLegal := by
  unfold State.judgeCard
  split
  next hcheck =>
    obtain ⟨hidle, _⟩ := (s.cardCheck_eq_none_iff i x batch units).1 hcheck
    exact h.acceptCard i x batch units hidle
  next r _ =>
    refine State.TagsLegal.tellCard ?_ i _ nofun
    split
    next => exact h.countStrike x
    next => exact h

theorem State.TagsLegal.cardOut : (s.cardOut i).TagsLegal := by
  unfold State.cardOut
  split
  next hs _ => exact h.removeCard_mapStation i _ (by simp [hs]) (by simp [hs])
  next => exact (h.removeCard i).startClear i _
  next => exact (h.removeCard i).startClear i _
  next => exact h.removeCard i
  next => exact h

end

end Sys2Proof.Machine

/-! # Burn orders (04): orders issued, delivered, answered and ended keep the tags legal -/

namespace Sys2Proof.Machine

/-! ## The frame on the line -/

section
variable {r : RowLine} {f : RowOutFrame} {rest : List RowOutFrame}

theorem RowLine.onLine_of_sending (hs : r.sending = .sending) (hout : r.outbound = f :: rest) : r.onLine = some f := by
  simp only [RowLine.onLine, hs, hout, if_true, List.head?_cons]

theorem RowLine.onLine_eq_some (h : r.onLine = some f) : ∃ rest, r.outbound = f :: rest := by
  unfold RowLine.onLine at h
  split at h
  next => exact ⟨_, List.eq_cons_of_mem_head? h⟩
  next => cases h

/-- R155. -/
theorem RowLine.dropHead_eq_reported (hout : r.outbound = f :: rest) : r.dropHead = r.reported rest := by
  simp only [RowLine.dropHead, RowLine.reported, hout, List.tail_cons]

end

section
variable (s : State) {f : RowOutFrame} {i : StationId} {t : Nat}

/-- R156: a BURN frame's report goes to the DE. -/
theorem State.headDelivered_of_burn (hf : f.burnPair = some (i, t)) :
    s.headDelivered f = { s with rlc := s.rlc.dropHead }.burnDelivered i t := by
  obtain ⟨hdest, x, u, hmsg⟩ := (f.burnPair_eq_some_iff i t).1 hf
  simp only [State.headDelivered, hdest, hmsg]

theorem State.headUndelivered_of_burn (hf : f.burnPair = some (i, t)) :
    s.headUndelivered f = { s with rlc := s.rlc.dropHead }.burnUndelivered i t := by
  obtain ⟨hdest, x, u, hmsg⟩ := (f.burnPair_eq_some_iff i t).1 hf
  simp only [State.headUndelivered, hdest, hmsg]

/-- R156: the report of another frame has no further effect. -/
theorem State.headDelivered_of_other (hf : f.burnPair = none) : s.headDelivered f = { s with rlc := s.rlc.dropHead } := by
  unfold State.headDelivered
  split
  next hdest hmsg => exact ((f.burnPair_eq_none_iff).1 hf _ _ _ _ ⟨hdest, hmsg⟩).elim
  next => rfl

theorem State.headUndelivered_of_other (hf : f.burnPair = none) :
    s.headUndelivered f = { s with rlc := s.rlc.dropHead } := by
  unfold State.headUndelivered
  split
  next hdest hmsg => exact ((f.burnPair_eq_none_iff).1 hf _ _ _ _ ⟨hdest, hmsg⟩).elim
  next => rfl

theorem State.sendingOrder_eq_some_iff (o : BurnOrder) :
    s.sendingOrder i t = some o ↔ s.order i = some o ∧ o.tag = t ∧ o.state = .sending := by
  unfold State.sendingOrder
  split
  next p hp =>
    rw [hp, Option.some.injEq]
    split
    next hcond =>
      rw [Option.some.injEq]
      exact ⟨fun heq => ⟨heq, heq ▸ hcond⟩, fun ⟨heq, _⟩ => heq⟩
    next hcond => exact ⟨nofun, fun ⟨heq, hcond'⟩ => absurd (heq ▸ hcond') hcond⟩
  next hnone => simp [hnone]

theorem State.sendingOrder_eq_none_iff :
    s.sendingOrder i t = none ↔ ∀ o, s.order i = some o → o.tag = t → o.state ≠ .sending := by
  rw [Option.eq_none_iff_forall_ne_some]
  simp only [ne_eq, State.sendingOrder_eq_some_iff, not_and]

end

/-! ## Orders that end -/

section
variable {s : State} (h : s.TagsLegal) {i : StationId} {o : BurnOrder}
include h

/-- The tags agree as station `i` holds its order `o`. -/
theorem State.TagsLegal.agreeWith (ho : s.order i = some o) :
    s.de.TagsAgreeWith i (some o) s.rlc.burnPairs s.de.retired :=
  ho ▸ DebitEngine.tagsAgreeWith_order h.tagsAgree i

/-- R87, R86: an order that waits for its reply is deleted. -/
theorem State.TagsLegal.deleteAwaiting (ho : s.order i = some o) (hs : o.state ≠ .sending) :
    (s.setOrder i none).TagsLegal := by
  obtain ⟨_, hroom, hcounter, _⟩ := s.tagsLegal_iff.1 h
  have htags := h.agreeWith ho
  rw [DebitEngine.TagsAgreeWith, sendingPair_of_not_sending hs] at htags
  exact h.of_order i none rfl rfl nofun hroom hcounter htags.release

/-- R85: an order answered while SENDING is deleted, its tag retired. -/
theorem State.TagsLegal.deleteAnswered (ho : s.order i = some o) : ((s.retireTag i o).setOrder i none).TagsLegal := by
  cases hs : o.state with
  | awaiting left =>
    rw [State.retireTag, hs]
    exact h.deleteAwaiting ho (by rw [hs]; nofun)
  | sending =>
    obtain ⟨_, hroom, hcounter, _⟩ := s.tagsLegal_iff.1 h
    have htags := h.agreeWith ho
    rw [DebitEngine.TagsAgreeWith, sendingPair_of_sending hs] at htags
    rw [State.retireTag, hs]
    exact h.of_order i none rfl rfl nofun hroom hcounter htags.retire

end

/-! ## Outcomes -/

theorem BurnOrder.totals_orderResolved (o : BurnOrder) (out : OrderOutcome) (x : CallContext) :
    (o.totals out x).orderResolved = x.orderResolved := by
  cases out <;> rfl

section
variable {s : State} (h : s.TagsLegal) (i : StationId)
include h

theorem State.TagsLegal.markFinal (c : FinalCause) : (s.markFinal i c).TagsLegal :=
  (h.mapContext i (fun x => { x with finalMark := some c }) fun _ _ => rfl).tellStation i (.unitsLow c) nofun

theorem State.TagsLegal.cutBack (l : List Interval) (c : FinalCause) : (s.cutBack i l c).TagsLegal := by
  have hcut := h.mapStation i (fun r => { r with intervals := l }) fun _ hr => hr
  unfold State.cutBack
  dsimp only
  split
  next => exact hcut.startClear i _
  next => exact hcut.markFinal i _

theorem State.TagsLegal.outcomeInTalk (o : BurnOrder) (out : OrderOutcome) (x : CallContext) :
    (s.outcomeInTalk i o out x).TagsLegal := by
  cases out with
  | full now => exact h.mapStation i (fun r => { r with intervals := payAll r.intervals }) fun _ hr => hr
  | short b now => exact h.cutBack i _ _
  | undelivered => exact h.cutBack i _ _
  | timedOut => exact h.cutBack i _ _

/-- R48: order resolved becomes true when no order is held. -/
theorem State.TagsLegal.resolveOrder (ho : s.order i = none) : (s.resolveOrder i).TagsLegal :=
  (h.mapContext i _ fun hheld => absurd ho hheld).completeIfDone i

theorem State.TagsLegal.outcomeToCall (o : BurnOrder) (out : OrderOutcome) (ho : s.order i = none) :
    (s.outcomeToCall i o out).TagsLegal := by
  have htotals := h.mapContext i (o.totals out) fun _ => o.totals_orderResolved out
  unfold State.outcomeToCall
  dsimp only
  split
  next => exact htotals.outcomeInTalk i o out _
  next => exact htotals.resolveOrder i ho
  next => exact htotals

end

section
variable {s : State} {i : StationId} (h : (s.setOrder i none).TagsLegal) (o : BurnOrder)
include h

/-- R88: the order of station `i` ends. -/
theorem State.TagsLegal.outcomeSteps (out : OrderOutcome) : (s.outcomeSteps i o out).TagsLegal := by
  have hnoted : (s.outcomeNoted i o out).TagsLegal := by
    unfold State.outcomeNoted State.cardUpdate
    split <;> exact h.of_frame rfl rfl rfl rfl fun _ _ => id
  have hcall := hnoted.outcomeToCall i o out (State.setOrder_same _ i none)
  rw [State.outcomeSteps_eq]
  split
  next => exact hcall.takeOut i _
  next => exact hcall

end

/-! ## Issue and replenishment -/

section
variable {s : State} (h : s.TagsLegal)
include h

theorem State.TagsLegal.offeredTag_inRange : 1 ≤ s.de.offeredTag ∧ s.de.offeredTag ≤ 255 := by
  obtain ⟨_, _, ⟨h1, h255⟩, _⟩ := s.tagsLegal_iff.1 h
  exact DebitEngine.offeredTag_inRange h1 h255 h.takenTags_length

theorem State.TagsLegal.offeredTag_not_mem : s.de.offeredTag ∉ s.de.takenTags := by
  obtain ⟨_, _, ⟨h1, h255⟩, _⟩ := s.tagsLegal_iff.1 h
  exact DebitEngine.offeredTag_not_mem h1 h255 h.takenTags_length

variable (i : StationId)

/-- R80: with room in the queue the order is held, and its BURN frame queued. -/
theorem State.TagsLegal.holdAndSend (x : Serial) (units : Nat) (p : Purpose) (hmay : (s.station i).MayOwe)
    (ho : s.order i = none) (hlt : s.rlc.outbound.length < rowOutboundRoom) :
    (State.offerRow { s with de := { s.de with
      orders := s.de.orders.set i (some (s.de.newOrder x units p)), tagCounter := nextTag s.de.offeredTag } }
      ⟨.station i, .burn s.de.offeredTag x units, .de⟩).TagsLegal := by
  have htag := h.offeredTag_inRange
  have hfree : s.de.offeredTag ∉ s.de.heldElsewhere i ++ s.de.retired.map Prod.snd := fun hmem =>
    h.offeredTag_not_mem (by
      rw [DebitEngine.takenTags, DebitEngine.heldTags_eq]
      exact (((List.erase_sublist).filterMap _).append (.refl _)).subset hmem)
  have hburns : (s.rlc.offer ⟨.station i, .burn s.de.offeredTag x units, .de⟩).burnPairs =
      s.rlc.burnPairs ++ [(i, s.de.offeredTag)] := by
    rw [RowLine.offer_of_room _ _ hlt, RowLine.burnPairs_eq, List.filterMap_append]
    rfl
  have hnow := DebitEngine.tagsAgreeWith_order h.tagsAgree i
  rw [ho] at hnow
  refine h.of_order i (some (s.de.newOrder x units p)) rfl rfl (fun _ => hmay) (s.rlc.offer_length _ hlt.le)
    (nextTag_inRange htag.1) ?_
  rw [State.offerRow_rlc, hburns, DebitEngine.TagsAgreeWith, sendingPair_of_sending rfl]
  exact TagsAgree.issue hnow hfree htag

/-- R79, R80: an order is issued for a station that holds none. -/
theorem State.TagsLegal.issueOrder (x : Serial) (units : Nat) (p : Purpose) (hmay : (s.station i).MayOwe)
    (ho : s.order i = none) : (s.issueOrder i x units p).TagsLegal := by
  unfold State.issueOrder
  dsimp only
  split
  next hroom => exact h.holdAndSend i x units p hmay ho (of_decide_eq_true hroom)
  next =>
    refine State.TagsLegal.outcomeSteps ?_ _ _
    have hcounted := h.counter (nextTag s.de.offeredTag) (nextTag_inRange h.offeredTag_inRange.1)
    refine hcounted.of_frame rfl ?_ rfl rfl fun _ _ => id
    rw [State.order] at ho
    rw [State.setOrder_de, PerStation.set_set, ← ho, PerStation.set_get]

theorem State.TagsLegal.replenish (x : BankId) (b : Band) (card : Serial) (hmay : (s.station i).MayOwe)
    (ho : s.order i = none) : (s.replenish i x b card).TagsLegal := by
  unfold State.replenish
  dsimp only
  split
  next => exact h.markFinal i _
  next =>
    refine (h.mapStation i _ fun _ hr => hr).issueOrder i _ _ _ ?_ ho
    rw [State.mapStation_same]
    exact hmay

/-- R36: replenishment is due only in TALK, with no order held. -/
theorem State.TagsLegal.considerReplenish : (s.considerReplenish i).TagsLegal := by
  unfold State.considerReplenish
  split
  next x _ htalk _ _ =>
    split
    next =>
      split
      next hdue =>
        obtain ⟨_, ho, _⟩ := (s.replenishDue_iff i x).1 hdue
        exact h.replenish i _ _ _ (.inl htalk) ho
      next => exact h
    next => exact h
  next => exact h

end

/-- R88: an outcome is taken for the order of station `i`. -/
theorem State.TagsLegal.takeOutcome {s : State} {i : StationId} (h : (s.setOrder i none).TagsLegal) (o : BurnOrder)
    (out : OrderOutcome) : (s.takeOutcome i o out).TagsLegal := by
  cases out with
  | full now => exact (h.outcomeSteps o _).considerReplenish i
  | short b now => exact h.outcomeSteps o _
  | undelivered => exact h.outcomeSteps o _
  | timedOut => exact h.outcomeSteps o _

/-! ## Frames reported -/

section
variable {s : State} (h : s.TagsLegal)
include h

section
variable {i : StationId} {t : Nat} {r : RowLine} (hburns : s.rlc.burnPairs = (i, t) :: r.burnPairs)
  (hroom : r.outbound.length ≤ rowOutboundRoom)
include hburns hroom

/-- R83: the head was the BURN frame of no SENDING order, hence of a retired pair. -/
theorem State.TagsLegal.forgetReported (hnone : s.sendingOrder i t = none) :
    ({ s with rlc := r }.forgetTag i t).TagsLegal := by
  obtain ⟨hcalls, _, hcounter, htags⟩ := s.tagsLegal_iff.1 h
  have hno : (i, t) ∉ s.sendingPairs := fun hmem => by
    obtain ⟨o, ho, htag, hs⟩ := (s.mem_sendingPairs i t).1 hmem
    exact s.sendingOrder_eq_none_iff.1 hnone o ho htag hs
  rw [hburns] at htags
  exact (State.tagsLegal_iff _).2 ⟨hcalls, hroom, hcounter, htags.forget hno⟩

theorem State.TagsLegal.burnDelivered : ({ s with rlc := r }.burnDelivered i t).TagsLegal := by
  obtain ⟨_, _, hcounter, _⟩ := s.tagsLegal_iff.1 h
  unfold State.burnDelivered
  split
  next o hsome =>
    obtain ⟨ho, rfl, hs⟩ := (s.sendingOrder_eq_some_iff o).1 hsome
    have htags := h.agreeWith ho
    rw [DebitEngine.TagsAgreeWith, hburns, sendingPair_of_sending hs] at htags
    have hmay : (s.station i).MayOwe := h.mayOwe (by rw [ho]; nofun)
    exact h.of_order i (some { o with state := .awaiting replyTime }) rfl rfl (fun _ => hmay) hroom hcounter htags.deliver
  next hnone => exact h.forgetReported hburns hroom hnone

theorem State.TagsLegal.burnUndelivered : ({ s with rlc := r }.burnUndelivered i t).TagsLegal := by
  obtain ⟨_, _, hcounter, _⟩ := s.tagsLegal_iff.1 h
  unfold State.burnUndelivered
  split
  next o hsome =>
    obtain ⟨ho, rfl, hs⟩ := (s.sendingOrder_eq_some_iff o).1 hsome
    have htags := h.agreeWith ho
    rw [DebitEngine.TagsAgreeWith, hburns, sendingPair_of_sending hs] at htags
    have hended : ({ s with rlc := r }.setOrder i none).TagsLegal :=
      h.of_order i none rfl rfl nofun hroom hcounter htags.deliver.release
    exact hended.takeOutcome o _
  next hnone => exact h.forgetReported hburns hroom hnone

end

variable {f : RowOutFrame} {rest : List RowOutFrame} (hout : s.rlc.outbound = f :: rest)
include hout

omit h in
theorem RowLine.burnPairs_of_cons : s.rlc.burnPairs = f.burnPair.toList ++ s.rlc.dropHead.burnPairs := by
  rw [RowLine.dropHead_eq_reported hout, RowLine.burnPairs_eq, hout, List.filterMap_cons]
  cases f.burnPair <;> rfl

theorem State.TagsLegal.dropHead_room : s.rlc.dropHead.outbound.length ≤ rowOutboundRoom := by
  obtain ⟨_, hroom, _, _⟩ := s.tagsLegal_iff.1 h
  rw [hout, List.length_cons] at hroom
  rw [RowLine.dropHead_eq_reported hout]
  exact (Nat.le_succ _).trans hroom

/-- R156: a frame other than BURN leaves the queue. -/
theorem State.TagsLegal.dropOther (hf : f.burnPair = none) : { s with rlc := s.rlc.dropHead }.TagsLegal := by
  obtain ⟨hcalls, _, hcounter, htags⟩ := s.tagsLegal_iff.1 h
  rw [RowLine.burnPairs_of_cons hout, hf] at htags
  exact (State.tagsLegal_iff _).2 ⟨hcalls, h.dropHead_room hout, hcounter, htags⟩

theorem State.TagsLegal.headDelivered : (s.headDelivered f).TagsLegal := by
  have hburns := RowLine.burnPairs_of_cons hout
  cases hf : f.burnPair with
  | none => rw [s.headDelivered_of_other hf]; exact h.dropOther hout hf
  | some p =>
    rw [hf] at hburns
    rw [s.headDelivered_of_burn hf]
    exact h.burnDelivered hburns (h.dropHead_room hout)

theorem State.TagsLegal.headUndelivered : (s.headUndelivered f).TagsLegal := by
  have hburns := RowLine.burnPairs_of_cons hout
  cases hf : f.burnPair with
  | none => rw [s.headUndelivered_of_other hf]; exact h.dropOther hout hf
  | some p =>
    rw [hf] at hburns
    rw [s.headUndelivered_of_burn hf]
    exact h.burnUndelivered hburns (h.dropHead_room hout)

theorem State.TagsLegal.transmissionFailed : (s.transmissionFailed f).TagsLegal := by
  unfold State.transmissionFailed
  split
  next => exact h.rlc _ rfl
  next => exact h.headUndelivered hout

end

end Sys2Proof.Machine

/-! # Burn orders (04): every command keeps the tags legal -/

namespace Sys2Proof.Machine

/-! ## Calls -/

section
variable {s : State} (h : s.TagsLegal) (i : StationId)
include h

theorem State.TagsLegal.openCall (digits : List Digit) (x : BankId) (k : CallKind) (htalk : (s.station i).state ≠ .talk)
    (hclearing : (s.station i).state ≠ .clearing) : (s.openCall i digits x k).TagsLegal := by
  have ho := h.order_eq_none htalk hclearing
  have hreserved : { s.pinBank x with rq := (s.pinBank x).rq.reserve }.TagsLegal := h.of_same rfl rfl rfl
  have hcontext := (hreserved.mapStation i (fun r => { r with context := some (s.newContext i digits x k) })
    fun hheld => absurd ho hheld).offerLink (.callOpen i digits)
  exact hcontext.mapStation i (fun r => { r with answerTimer := some answerTime, state := .setup })
    fun hheld => absurd ho hheld

omit h in
/-- R9: a call is admitted from IDLE or READY only. -/
theorem State.callCheck_state {digits : List Digit} {k : BankId × CallKind} (hcheck : s.callCheck i digits = .ok k) :
    (s.station i).state = .idle ∨ (s.station i).state = .ready := by
  unfold State.callCheck at hcheck
  split at hcheck
  next => cases hcheck
  next =>
    split at hcheck
    next => cases hcheck
    next hbusy => tauto

theorem State.TagsLegal.judgeNumber (digits : List Digit) : (s.judgeNumber i digits).TagsLegal := by
  unfold State.judgeNumber
  split
  next hcheck =>
    obtain hs | hs := State.callCheck_state i hcheck
    · exact h.openCall i _ _ _ (by simp [hs]) (by simp [hs])
    · exact h.openCall i _ _ _ (by simp [hs]) (by simp [hs])
  next => exact h.tellStation i _ nofun

/-! ## The answer, the head, reports -/

theorem State.TagsLegal.answerFree (hsetup : (s.station i).state = .setup) : (s.answerFree i).TagsLegal :=
  (h.mapStation_idle i _ (by simp [hsetup]) (by simp [hsetup])).tellStation i .connected nofun

theorem State.TagsLegal.openTalk (card : Serial) (e : BandEntry) (j : Nat) (ho : s.order i = none) :
    (s.openTalk i card e j).TagsLegal := by
  refine State.TagsLegal.issueOrder (State.TagsLegal.tellStation (h.mapStation i _ fun hheld => absurd ho hheld) i .connected
    nofun) i _ _ _ ?_ ho
  rw [State.tellStation_station, State.mapStation_same]
  exact .inl rfl

theorem State.TagsLegal.answerCharged (x : BankId) (b : Band) (hsetup : (s.station i).state = .setup) :
    (s.answerCharged i x b).TagsLegal := by
  have hanswered : ∀ f : CallContext → CallContext,
      (s.mapStation i fun r => { r with answerTimer := none, context := r.context.map f }).TagsLegal :=
    fun f => h.mapStation_idle i _ (by simp [hsetup]) (by simp [hsetup])
  have ho := h.order_eq_none (i := i) (by simp [hsetup]) (by simp [hsetup])
  unfold State.answerCharged
  dsimp only
  split
  next =>
    split
    next => exact (hanswered _).startClear i _
    next => exact (hanswered _).openTalk i _ _ _ ho
  next => exact (hanswered _).startClear i _

theorem State.TagsLegal.answerCall : (s.answerCall i).TagsLegal := by
  unfold State.answerCall
  split
  next hsetup _ =>
    split
    next => exact h.answerFree i hsetup
    next => exact h.answerCharged i _ _ hsetup
  next => exact h.offerLink _

theorem State.TagsLegal.headExpired (x : CallContext) : (s.headExpired i x).TagsLegal := by
  unfold State.headExpired
  split
  next => exact h.startClear i _
  next e rest _ =>
    split
    next =>
      refine (h.mapStation i (StationRecord.beginHead e rest) fun _ hr => hr.of_eq rfl ?_).considerReplenish i
      simp only [StationRecord.beginHead, Option.map_map, Function.comp_def]
    next => exact h.startClear i _

/-- R84, R85: a report that matches ends the order. -/
theorem State.TagsLegal.takeReport (tag burned now : Nat) : (s.takeReport i tag burned now).TagsLegal := by
  unfold State.takeReport
  split
  next ho =>
    split
    next => exact (h.deleteAnswered ho).takeOutcome _ _
    next => exact h
  next => exact h

end

/-! ## Management requests -/

section
variable {s : State} (h : s.TagsLegal) (data : List Byte)
include h

theorem State.TagsLegal.selectPage : (Machine.selectPage data s).state.TagsLegal := by
  unfold Machine.selectPage
  split
  next =>
    split
    next => exact h.mu _
    next => exact h
  next => exact h

theorem State.TagsLegal.writeHot (k : Nat) (e : EntryRead HotRange) : (s.writeHot k e).2.TagsLegal := by
  unfold State.writeHot
  dsimp only
  split
  next => exact h
  next => exact h.cards _
  next r =>
    split
    next => exact h
    next =>
      dsimp only
      exact State.TagsLegal.barRange (h.cards _) r

theorem State.TagsLegal.writeBatch (k : Nat) (e : EntryRead BatchEntry) : (s.writeBatch k e).2.TagsLegal := by
  unfold State.writeBatch
  dsimp only
  split
  next => exact h
  next => exact h.cards _
  next =>
    split
    next => exact h
    next => exact h.cards _

theorem State.TagsLegal.writeBank {α : Type} (x : BankId) (e : EntryRead α) (repeats : Bank → α → Bool)
    (store : Option α → Bank → Bank) : (s.writeBank x e repeats store).2.TagsLegal := by
  unfold State.writeBank
  dsimp only
  split
  next => exact h
  next =>
    split
    next => exact h
    next => exact h.setBank x _
    next =>
      split
      next => exact h
      next => exact h.setBank x _

theorem State.TagsLegal.writeEntry (bytes : List Byte) : (s.writeEntry bytes).2.TagsLegal := by
  unfold State.writeEntry
  dsimp only
  split
  next => exact h.writeHot _ _
  next => exact h.writeBatch _ _
  next => exact h.writeBank _ _ _ _
  next => exact h.writeBank _ _ _ _
  next => exact h.writeBank _ _ _ _
  next => exact h

theorem State.TagsLegal.writeAll (es : List (List Byte)) (n : Nat) : (s.writeAll es n).state.TagsLegal := by
  induction es generalizing s n with
  | nil => exact h
  | cons e es ih =>
    have hone := h.writeEntry e
    unfold State.writeAll
    split
    next u heq => rw [heq] at hone; exact ih hone.advancePointer (n + 1)
    next st u _ heq => rw [heq] at hone; exact hone

theorem State.TagsLegal.writeEntries : (Machine.writeEntries data s).state.TagsLegal := by
  unfold Machine.writeEntries
  split
  next => exact h
  next =>
    split_ifs
    · exact h
    · exact h.writeAll _ 0
    · exact h

theorem State.TagsLegal.readAll (n : Nat) : (s.readAll n).2.TagsLegal := by
  induction n generalizing s with
  | zero => exact h
  | succ n ih => exact ih h.advancePointer

theorem State.TagsLegal.readEntries : (Machine.readEntries data s).state.TagsLegal := by
  unfold Machine.readEntries
  split
  next =>
    split
    next => exact h.readAll _
    next => exact h
  next => exact h

theorem State.TagsLegal.activate (x : BankId) : (s.activate x).2.TagsLegal := by
  unfold State.activate
  split
  next => exact h
  next => exact h
  next => exact h
  next =>
    split
    next => exact (h.setBank x _).setBank x.other _
    next => exact h

theorem State.TagsLegal.activateBank : (Machine.activateBank data s).state.TagsLegal := by
  unfold Machine.activateBank
  split
  next =>
    split
    next => exact h.activate _
    next => exact h
  next => exact h

theorem State.TagsLegal.setService : (Machine.setService data s).state.TagsLegal := by
  unfold Machine.setService
  split
  next =>
    split
    next => exact h
    next v _ =>
      split_ifs
      · exact h
      · exact h
      · exact (h.mu { s.mu with service := v }).offerRow ⟨.broadcast, .service v, .mu⟩ rfl
  next => exact h

theorem State.TagsLegal.setStation_request : (Machine.setStation data s).state.TagsLegal := by
  unfold Machine.setStation
  split
  next =>
    split
    next =>
      split
      next => exact (h.setMode _ _ _).refreshAttn
      next => exact h
    next => exact h
  next => exact h

theorem State.TagsLegal.readStation : (Machine.readStation data s).state.TagsLegal := by
  unfold Machine.readStation
  split
  next => split <;> exact h
  next => exact h

theorem State.TagsLegal.readStatus : (Machine.readStatus data s).state.TagsLegal := by
  unfold Machine.readStatus
  split <;> exact h

theorem State.TagsLegal.fetchRecord : (Machine.fetchRecord data s).state.TagsLegal := by
  unfold Machine.fetchRecord
  split
  next =>
    split
    next => exact h
    next => split <;> exact h
  next => exact h

theorem State.TagsLegal.releaseRecords : (Machine.releaseRecords data s).state.TagsLegal := by
  unfold Machine.releaseRecords
  split
  next => exact (h.records _).refreshAttn
  next => exact h

theorem State.TagsLegal.removeAutobar : (Machine.removeAutobar data s).state.TagsLegal := by
  unfold Machine.removeAutobar
  split
  next =>
    split
    next => exact h.cards _
    next => exact h
  next => exact h

omit h in
theorem State.restartStation_de (i : StationId) : (s.restartStation i).de = s.de := by
  unfold State.restartStation State.storeRestart
  split <;> rfl

/-- R98, R188: no order, no retired pair and no row frame stays; the counter does. -/
theorem State.TagsLegal.restartLine : s.restartLine.TagsLegal := by
  obtain ⟨_, _, hcounter, _⟩ := s.tagsLegal_iff.1 h
  have hde : (stationIds.foldl State.restartStation s).de = s.de :=
    List.foldlRecOn (motive := fun u : State => u.de = s.de) stationIds State.restartStation rfl
      fun u hu i _ => (u.restartStation_de i).trans hu
  unfold State.restartLine
  generalize stationIds.foldl State.restartStation s = u at hde
  rw [← hde] at hcounter
  exact State.tagsLegal_of_empty rfl rfl rfl hcounter

theorem State.TagsLegal.restartLine_request : (Machine.restartLine data s).state.TagsLegal := by
  unfold Machine.restartLine
  split
  next => exact h.restartLine.refreshAttn
  next => exact h

end

/-! ## The two lines -/

section
variable {s : State} (h : s.TagsLegal)
include h

theorem State.TagsLegal.takeRow {f : RowInFrame} {u : State} (htake : s.takeRow = some (f, u)) : u.TagsLegal := by
  obtain ⟨rest, _, rfl⟩ := State.takeRow_eq_some htake
  exact h.rlc _ rfl

theorem State.TagsLegal.takeLink {m : LinkInMsg} {u : State} (htake : s.takeLink = some (m, u)) : u.TagsLegal := by
  obtain ⟨rest, _, rfl⟩ := State.takeLink_eq_some htake
  exact h.xlc _

/-- R177: a request and its reply. -/
theorem State.TagsLegal.runRequest (name : Byte) {handle : List Byte → State → Answer}
    (hhandle : ∀ {u : State}, u.TagsLegal → ∀ data, (handle data u).state.TagsLegal) :
    (s.runRequest name handle).TagsLegal := by
  unfold State.runRequest
  split
  next htake =>
    split
    next => exact (hhandle (h.takeLink htake) _).offerLink _
    next => exact h
  next => exact h

theorem State.TagsLegal.runUnknown : s.runUnknown.TagsLegal := by
  unfold State.runUnknown
  split
  next htake =>
    split
    next => exact h
    next => exact (h.takeLink htake).offerLink _
  next => exact h

theorem State.TagsLegal.takeCallAnswered : s.takeCallAnswered.TagsLegal := by
  unfold State.takeCallAnswered
  split
  next htake => exact ((h.takeLink htake).answerCall _).refreshAttn
  next => exact h

theorem State.TagsLegal.exchangeClears (i : StationId) (x : Byte) : (s.exchangeClears i x).TagsLegal := by
  unfold State.exchangeClears
  split
  next => exact h.exchangeClear i x
  next => exact h.exchangeClear i x
  next => exact h.releaseCall i
  all_goals exact h.offerLink _

theorem State.TagsLegal.takeCallClear : s.takeCallClear.TagsLegal := by
  unfold State.takeCallClear
  split
  next htake => exact ((h.takeLink htake).exchangeClears _ _).refreshAttn
  next => exact h

theorem State.TagsLegal.takeCallReleased : s.takeCallReleased.TagsLegal := by
  unfold State.takeCallReleased
  split
  next htake =>
    refine State.TagsLegal.refreshAttn ?_
    unfold State.exchangeReleases
    split
    next => exact (h.takeLink htake).releaseCall _
    next => exact h.takeLink htake
  next => exact h

theorem State.TagsLegal.takeClock : s.takeClock.TagsLegal := by
  unfold State.takeClock
  split
  next htake => exact ((h.takeLink htake).clock _).refreshAttn
  next => exact h

omit h in
theorem RowLine.receive_outbound (r : RowLine) (bytes : List Byte) : (r.receive bytes).outbound = r.outbound := by
  unfold RowLine.receive
  split
  next => rfl
  next =>
    split
    next => rfl
    next => rfl
    next => unfold RowLine.accept; split <;> rfl

omit h in
theorem RowLine.transmit_outbound (r : RowLine) : r.transmit.outbound = r.outbound := by
  unfold RowLine.transmit
  split <;> rfl

theorem State.TagsLegal.lineFree : s.lineFree.TagsLegal := by
  unfold State.lineFree
  split
  next => exact h.rlc _ s.rlc.transmit_outbound
  next => exact h

theorem State.TagsLegal.retryDue : s.retryDue.TagsLegal := by
  unfold State.retryDue
  split
  next => exact h.rlc _ s.rlc.transmit_outbound
  next => exact h

theorem State.TagsLegal.spoiled : s.spoiled.TagsLegal := by
  unfold State.spoiled
  split
  next hline =>
    obtain ⟨rest, hout⟩ := RowLine.onLine_eq_some hline
    exact (h.transmissionFailed hout).refreshAttn
  next => exact h

theorem State.TagsLegal.slotEnds (heard : Option Byte) : (s.slotEnds heard).TagsLegal := by
  unfold State.slotEnds
  split
  next => exact h
  next hline =>
    obtain ⟨rest, hout⟩ := RowLine.onLine_eq_some hline
    split
    next => exact h
    next =>
      split
      next => exact (h.headDelivered hout).refreshAttn
      next => exact (h.headUndelivered hout).refreshAttn
      next => exact (h.transmissionFailed hout).refreshAttn
      next => exact (h.transmissionFailed hout).refreshAttn

theorem State.TagsLegal.broadcastEnds : s.broadcastEnds.TagsLegal := by
  unfold State.broadcastEnds
  split
  next => exact h
  next hline =>
    obtain ⟨rest, hout⟩ := RowLine.onLine_eq_some hline
    split
    next => exact h.headDelivered hout
    next => exact h

/-! ## Station frames taken -/

theorem State.TagsLegal.takeCardIn : s.takeCardIn.TagsLegal := by
  unfold State.takeCardIn
  split
  next htake => exact (h.takeRow htake).judgeCard _ _ _ _
  next => exact h

theorem State.TagsLegal.takeCardOut : s.takeCardOut.TagsLegal := by
  unfold State.takeCardOut
  split
  next htake => exact (h.takeRow htake).cardOut _
  next => exact h

theorem State.TagsLegal.takeNumber : s.takeNumber.TagsLegal := by
  unfold State.takeNumber
  split
  next htake => exact (h.takeRow htake).judgeNumber _ _
  next => exact h

theorem State.TagsLegal.takeHookOn : s.takeHookOn.TagsLegal := by
  unfold State.takeHookOn
  split
  next htake =>
    split
    next => exact (h.takeRow htake).startClear _ _
    next => exact h.takeRow htake
  next => exact h

theorem State.TagsLegal.takeBurnReport : s.takeBurnReport.TagsLegal := by
  unfold State.takeBurnReport
  split
  next htake => exact ((h.takeRow htake).takeReport _ _ _ _).refreshAttn
  next => exact h

/-! ## Timers -/

theorem State.TagsLegal.answerExpires (i : StationId) : (s.answerExpires i).TagsLegal := by
  unfold State.answerExpires
  split
  next => exact h.startClear i _
  next => exact h

theorem State.TagsLegal.releaseExpires (i : StationId) : (s.releaseExpires i).TagsLegal := by
  unfold State.releaseExpires
  split
  next => exact (h.releaseCall i).refreshAttn
  next => exact h

theorem State.TagsLegal.headExpires (i : StationId) : (s.headExpires i).TagsLegal := by
  unfold State.headExpires
  split
  next => exact (h.headExpired i _).refreshAttn
  next => exact h

/-- R87: the order waits for its reply when the reply timer expires. -/
theorem State.TagsLegal.replyExpires (i : StationId) : (s.replyExpires i).TagsLegal := by
  unfold State.replyExpires
  split
  next o ho =>
    split
    next hawaiting => exact ((h.deleteAwaiting ho (by rw [hawaiting]; nofun)).takeOutcome o _).refreshAttn
    next => exact h
  next => exact h

theorem State.TagsLegal.rememberExpires (x : Serial) : (s.rememberExpires x).TagsLegal := by
  unfold State.rememberExpires
  split
  next =>
    split
    next => exact h.withCards _
    next => exact h
  next => exact h

theorem State.TagsLegal.silenceExpires : s.silenceExpires.TagsLegal := by
  unfold State.silenceExpires
  split
  next => exact ((h.xlc _).foldl (fun hu i => hu.linkDownStation i) stationIds).refreshAttn
  next => exact h

theorem State.TagsLegal.untrustExpires : s.untrustExpires.TagsLegal := by
  unfold State.untrustExpires
  split
  next => exact (h.clock _).refreshAttn
  next => exact h

/-- R122: a tick keeps an order SENDING or AWAITING, and every station in its state. -/
theorem State.TagsLegal.tick : s.tick.TagsLegal := by
  have hticked := h.mapOrders BurnOrder.tick (fun _ => rfl) fun o => by cases hs : o.state <;> simp [BurnOrder.tick, hs]
  refine hticked.of_frame rfl rfl rfl rfl fun i _ hi => ?_
  rw [State.tick, State.station, PerStation.get_map]
  exact hi.of_eq rfl rfl

/-! ## Power -/

omit h in
theorem State.tagsLegal_atPowerUp (pins : Pins) (q : RecordQueue) : (s.atPowerUp pins q).TagsLegal :=
  State.tagsLegal_of_empty rfl rfl rfl ⟨le_rfl, Nat.le_of_ble_eq_true rfl⟩

theorem State.TagsLegal.holdReset : s.holdReset.TagsLegal := by
  unfold State.holdReset
  split
  next => exact State.tagsLegal_atPowerUp _ _
  next => exact h.of_same rfl rfl rfl

theorem State.TagsLegal.losePower : s.losePower.TagsLegal := by
  unfold State.losePower
  split
  next =>
    have hlost := s.tagsLegal_atPowerUp { supply := false, reset := s.pins.reset, attn := Config.attnUnpowered s.free }
      s.rq.unpowered
    exact hlost.of_same rfl rfl rfl
  next => exact h

theorem State.TagsLegal.loseVbak : s.loseVbak.TagsLegal := by
  unfold State.loseVbak
  split
  next => exact h
  next => exact h.records _

/-! ## Every command -/

variable {t : State}

theorem State.TagsLegal.of_whenRunning {f : State → State} (hf : s.TagsLegal → (f s).TagsLegal)
    (hnext : whenRunning f s = .next t) : t.TagsLegal := by
  rw [whenRunning_next f s t hnext]
  split
  next => exact hf h
  next => exact h

theorem State.TagsLegal.exec {c : Instr} (hnext : Machine.exec c s = .next t) : t.TagsLegal := by
  cases c with
  | powerUp => cases hnext; exact (State.tagsLegal_atPowerUp _ _).refreshAttn
  | resetAsserted => cases hnext; exact h.holdReset
  | powerLoss => cases hnext; exact h.losePower
  | vbakLost => cases hnext; exact h.loseVbak
  | rowFrameReceived bytes =>
    exact h.of_whenRunning (f := State.rowReceived bytes) (fun hs => hs.rlc _ (s.rlc.receive_outbound bytes)) hnext
  | cardIn => exact h.of_whenRunning .takeCardIn hnext
  | cardOut => exact h.of_whenRunning .takeCardOut hnext
  | number => exact h.of_whenRunning .takeNumber hnext
  | hookOn => exact h.of_whenRunning .takeHookOn hnext
  | burnReport => exact h.of_whenRunning .takeBurnReport hnext
  | lineFree => exact h.of_whenRunning .lineFree hnext
  | retry => exact h.of_whenRunning .retryDue hnext
  | spoiledTransmission => exact h.of_whenRunning .spoiled hnext
  | acknowledgeSlot heard => exact h.of_whenRunning (fun hs => hs.slotEnds heard) hnext
  | broadcastSent => exact h.of_whenRunning .broadcastEnds hnext
  | linkFrameReceived bytes =>
    exact h.of_whenRunning (f := State.linkReceived bytes) (fun hs => (hs.xlc _).refreshAttn) hnext
  | callAnswered => exact h.of_whenRunning .takeCallAnswered hnext
  | callClear => exact h.of_whenRunning .takeCallClear hnext
  | callReleased => exact h.of_whenRunning .takeCallReleased hnext
  | clock => exact h.of_whenRunning .takeClock hnext
  | linkFrameSent => exact h.of_whenRunning (f := State.linkSent) (fun hs => hs.xlc _) hnext
  | selectPage => exact h.of_whenRunning (fun hs => hs.runRequest _ .selectPage) hnext
  | writeEntries => exact h.of_whenRunning (fun hs => hs.runRequest _ .writeEntries) hnext
  | readEntries => exact h.of_whenRunning (fun hs => hs.runRequest _ .readEntries) hnext
  | activateBank => exact h.of_whenRunning (fun hs => hs.runRequest _ .activateBank) hnext
  | setService => exact h.of_whenRunning (fun hs => hs.runRequest _ .setService) hnext
  | setStation => exact h.of_whenRunning (fun hs => hs.runRequest _ .setStation_request) hnext
  | readStation => exact h.of_whenRunning (fun hs => hs.runRequest _ .readStation) hnext
  | readStatus => exact h.of_whenRunning (fun hs => hs.runRequest _ .readStatus) hnext
  | fetchRecord => exact h.of_whenRunning (fun hs => hs.runRequest _ .fetchRecord) hnext
  | releaseRecords => exact h.of_whenRunning (fun hs => hs.runRequest _ .releaseRecords) hnext
  | removeAutobar => exact h.of_whenRunning (fun hs => hs.runRequest _ .removeAutobar) hnext
  | restartLine => exact h.of_whenRunning (fun hs => hs.runRequest _ .restartLine_request) hnext
  | mgmtRequestUnknown => exact h.of_whenRunning .runUnknown hnext
  | answerTimerExpiry i => exact h.of_whenRunning (fun hs => hs.answerExpires i) hnext
  | releaseTimerExpiry i => exact h.of_whenRunning (fun hs => hs.releaseExpires i) hnext
  | headIntervalExpiry i => exact h.of_whenRunning (fun hs => hs.headExpires i) hnext
  | replyTimerExpiry i => exact h.of_whenRunning (fun hs => hs.replyExpires i) hnext
  | rememberTimerExpiry x => exact h.of_whenRunning (fun hs => hs.rememberExpires x) hnext
  | silenceTimerExpiry => exact h.of_whenRunning .silenceExpires hnext
  | untrustTimerExpiry => exact h.of_whenRunning .untrustExpires hnext
  | timeOfDayTick => exact h.of_whenRunning .tick hnext

end

/-- Settles O56: taking the command off the queue touches no order, and every command keeps the tags legal. -/
theorem tagsLegalAlways : Obligations.TagsLegalAlways := by
  intro s t h hstep
  unfold step at hstep
  split at hstep
  next => cases hstep; exact h
  next rest _ =>
    have hrest : { s with pending := rest }.TagsLegal := h.of_same rfl rfl rfl
    exact hrest.exec hstep

end Sys2Proof.Machine

/-! # Burn orders (04): an order issued, its frame reported, its reply -/

namespace Sys2Proof.Machine

/-! ## An order issued -/

/-- Settles O29: the room of the queue decides, and the search passes over taken tags only. -/
theorem orderIssued : Obligations.OrderIssued := by
  intro s i card units p tag o held
  refine ⟨fun hlt => ?room, fun hge => ?full, fun h => ?tag⟩
  case room =>
    have hroom : s.rlc.hasRoom = true := decide_eq_true hlt
    rw [State.issueOrder, hroom]
    rfl
  case full =>
    have hroom : s.rlc.hasRoom = false := decide_eq_false (Nat.not_lt.2 hge)
    rw [State.issueOrder, hroom]
    rfl
  case tag =>
    obtain ⟨_, _, ⟨h1, h255⟩, _⟩ := s.tagsLegal_iff.1 h
    obtain ⟨htag1, htag255⟩ := h.offeredTag_inRange
    obtain ⟨hheld, hretired⟩ := not_or.1 (List.mem_append.not.1 h.offeredTag_not_mem)
    exact ⟨htag1, htag255, hheld, hretired, fun n hn1 hn255 hpassed =>
      List.mem_append.1 (DebitEngine.mem_takenTags_of_passed h1 h255 h.takenTags_length hn1 hn255 hpassed)⟩

/-! ## The slot after a transmission -/

/-- R149: a byte that is neither TAKEN nor REFUSED, and no byte, is BUSY or silence. -/
theorem slotAnswer_of_not_taken {heard : Option Byte} (htaken : heard ≠ some 0xA5) (hrefused : heard ≠ some 0xC3) :
    slotAnswer heard = some .busy ∨ slotAnswer heard = none := by
  cases heard with
  | none => exact .inr rfl
  | some b =>
    have hA5 : b ≠ RowAnswer.taken.symbol := fun hb => htaken (congrArg some hb)
    have hC3 : b ≠ RowAnswer.refused.symbol := fun hb => hrefused (congrArg some hb)
    by_cases hbusy : b = RowAnswer.busy.symbol
    · exact .inl (hbusy ▸ slotAnswer_symbol .busy)
    · refine .inr (slotAnswer_other b fun a => ?_)
      cases a <;> assumption

section
variable {s : State} {f : RowOutFrame} {rest : List RowOutFrame} {i : StationId} {heard : Option Byte}
  (hrun : s.running = true) (hsending : s.rlc.sending = .sending) (hout : s.rlc.outbound = f :: rest)
include hrun hsending hout

theorem exec_spoiledTransmission_eq : exec .spoiledTransmission s = .next (s.transmissionFailed f).refreshAttn := by
  rw [show exec .spoiledTransmission s = whenRunning State.spoiled s from rfl, whenRunning_of_running _ s hrun,
    State.spoiled, RowLine.onLine_of_sending hsending hout]

/-- R158: a broadcast sent whole is delivered. -/
theorem exec_broadcastSent_eq (hdest : f.dest = .broadcast) : exec .broadcastSent s = .next (s.headDelivered f) := by
  rw [show exec .broadcastSent s = whenRunning State.broadcastEnds s from rfl, whenRunning_of_running _ s hrun]
  simp only [State.broadcastEnds, RowLine.onLine_of_sending hsending hout, hdest]

section
variable (hdest : f.dest = .station i)
include hdest

theorem exec_acknowledgeSlot_of_taken : exec (.acknowledgeSlot (some 0xA5)) s = .next (s.headDelivered f).refreshAttn := by
  rw [show exec (.acknowledgeSlot (some 0xA5)) s = whenRunning (State.slotEnds (some 0xA5)) s from rfl,
    whenRunning_of_running _ s hrun]
  have hanswer : slotAnswer (some 0xA5) = some .taken := slotAnswer_symbol .taken
  simp only [State.slotEnds, RowLine.onLine_of_sending hsending hout, hdest, hanswer]

theorem exec_acknowledgeSlot_of_refused :
    exec (.acknowledgeSlot (some 0xC3)) s = .next (s.headUndelivered f).refreshAttn := by
  rw [show exec (.acknowledgeSlot (some 0xC3)) s = whenRunning (State.slotEnds (some 0xC3)) s from rfl,
    whenRunning_of_running _ s hrun]
  have hanswer : slotAnswer (some 0xC3) = some .refused := slotAnswer_symbol .refused
  simp only [State.slotEnds, RowLine.onLine_of_sending hsending hout, hdest, hanswer]

/-- R156: BUSY and silence are failures of the transmission. -/
theorem exec_acknowledgeSlot_of_failed (htaken : heard ≠ some 0xA5) (hrefused : heard ≠ some 0xC3) :
    exec (.acknowledgeSlot heard) s = .next (s.transmissionFailed f).refreshAttn := by
  rw [show exec (.acknowledgeSlot heard) s = whenRunning (State.slotEnds heard) s from rfl, whenRunning_of_running _ s hrun]
  obtain hanswer | hanswer := slotAnswer_of_not_taken htaken hrefused <;>
    simp only [State.slotEnds, RowLine.onLine_of_sending hsending hout, hdest, hanswer]

end

end

/-! ## The head reported -/

section
variable {s : State} {f : RowOutFrame}

/-- R155: below four transmissions the frame is sent again. -/
theorem State.transmissionFailed_of_lt (h : s.rlc.attempts < 4) :
    s.transmissionFailed f = { s with rlc := { s.rlc with sending := .retry } } := if_pos h

theorem State.transmissionFailed_of_ge (h : 4 ≤ s.rlc.attempts) : s.transmissionFailed f = s.headUndelivered f :=
  if_neg (Nat.not_lt.2 h)

variable {rest : List RowOutFrame} {i : StationId} {t : Nat} (hout : s.rlc.outbound = f :: rest)
include hout

theorem State.headDelivered_eq_reported (hf : f.burnPair = none) :
    s.headDelivered f = { s with rlc := s.rlc.reported rest } := by
  rw [s.headDelivered_of_other hf, RowLine.dropHead_eq_reported hout]

theorem State.headUndelivered_eq_reported (hf : f.burnPair = none) :
    s.headUndelivered f = { s with rlc := s.rlc.reported rest } := by
  rw [s.headUndelivered_of_other hf, RowLine.dropHead_eq_reported hout]

section
variable (hf : f.burnPair = some (i, t))
include hf

/-- R81: the order of the frame waits for its reply. -/
theorem State.headDelivered_of_sending {o : BurnOrder} (ho : s.order i = some o) (htag : o.tag = t)
    (hs : o.state = .sending) : s.headDelivered f =
      { s with rlc := s.rlc.reported rest }.setOrder i (some { o with state := .awaiting 30 }) := by
  have hsome : { s with rlc := s.rlc.reported rest }.sendingOrder i t = some o :=
    (State.sendingOrder_eq_some_iff _ o).2 ⟨ho, htag, hs⟩
  rw [s.headDelivered_of_burn hf, RowLine.dropHead_eq_reported hout, State.burnDelivered, hsome]
  rfl

/-- R82: the order of the frame is UNDELIVERED. -/
theorem State.headUndelivered_of_sending {o : BurnOrder} (ho : s.order i = some o) (htag : o.tag = t)
    (hs : o.state = .sending) : s.headUndelivered f =
      { s with rlc := s.rlc.reported rest }.takeOutcome i o .undelivered := by
  have hsome : { s with rlc := s.rlc.reported rest }.sendingOrder i t = some o :=
    (State.sendingOrder_eq_some_iff _ o).2 ⟨ho, htag, hs⟩
  rw [s.headUndelivered_of_burn hf, RowLine.dropHead_eq_reported hout, State.burnUndelivered, hsome]

variable (hno : ∀ o, s.order i = some o → o.tag = t → o.state ≠ .sending)
include hno

/-- R83: the frame was that of a retired pair. -/
theorem State.headDelivered_of_retired : s.headDelivered f =
    { s with rlc := s.rlc.reported rest, de := { s.de with retired := s.de.retired.erase (i, t) } } := by
  have hnone : { s with rlc := s.rlc.reported rest }.sendingOrder i t = none := (State.sendingOrder_eq_none_iff _).2 hno
  rw [s.headDelivered_of_burn hf, RowLine.dropHead_eq_reported hout, State.burnDelivered, hnone]
  rfl

theorem State.headUndelivered_of_retired : s.headUndelivered f =
    { s with rlc := s.rlc.reported rest, de := { s.de with retired := s.de.retired.erase (i, t) } } := by
  have hnone : { s with rlc := s.rlc.reported rest }.sendingOrder i t = none := (State.sendingOrder_eq_none_iff _).2 hno
  rw [s.headUndelivered_of_burn hf, RowLine.dropHead_eq_reported hout, State.burnUndelivered, hnone]
  rfl

end

end

/-- Settles O9: TAKEN and the end of a broadcast report the head delivered; its kind and its order decide. -/
theorem deliveredHead : Obligations.DeliveredHead := by
  intro s f rest hrun hsending hout
  refine ⟨fun i hdest => ?station, fun hdest => ?broadcast⟩
  case station =>
    rw [exec_acknowledgeSlot_of_taken hrun hsending hout hdest]
    refine ⟨fun hother => ?_, fun t x u hmsg => ?_⟩
    · have hf : f.burnPair = none := (f.burnPair_eq_none_iff).2 fun _ t x u ⟨_, hburn⟩ => hother t x u hburn
      rw [State.headDelivered_eq_reported hout hf]
    · have hf : f.burnPair = some (i, t) := (f.burnPair_eq_some_iff i t).2 ⟨hdest, x, u, hmsg⟩
      exact ⟨fun o ho htag hs => by rw [State.headDelivered_of_sending hout hf ho htag hs],
        fun hno => by rw [State.headDelivered_of_retired hout hf hno]⟩
  case broadcast =>
    have hf : f.burnPair = none := (f.burnPair_eq_none_iff).2 fun i _ _ _ ⟨hstation, _⟩ => by
      rw [hdest] at hstation; cases hstation
    rw [exec_broadcastSent_eq hrun hsending hout hdest, State.headDelivered_eq_reported hout hf]

/-- Settles O10: a failure retries or reports the head undelivered by the attempt count, REFUSED reports it at once. -/
theorem transmissionNotTaken : Obligations.TransmissionNotTaken := by
  refine ⟨fun s f rest hrun hsending hout hlt => ?retry, fun s f rest c hrun hsending hout hc => ?undelivered⟩
  case retry =>
    have hretry := State.transmissionFailed_of_lt (f := f) hlt
    refine ⟨?_, fun i heard hdest htaken hrefused => ?_⟩
    · rw [exec_spoiledTransmission_eq hrun hsending hout, hretry]
    · rw [exec_acknowledgeSlot_of_failed hrun hsending hout hdest htaken hrefused, hretry]
  case undelivered =>
    have hexec : exec c s = .next (s.headUndelivered f).refreshAttn := by
      obtain ⟨⟨i, hdest⟩, rfl⟩ | ⟨⟨i, hdest⟩, hge, heard, htaken, hrefused, rfl⟩ | ⟨hge, rfl⟩ := hc
      · exact exec_acknowledgeSlot_of_refused hrun hsending hout hdest
      · rw [exec_acknowledgeSlot_of_failed hrun hsending hout hdest htaken hrefused, State.transmissionFailed_of_ge hge]
      · rw [exec_spoiledTransmission_eq hrun hsending hout, State.transmissionFailed_of_ge hge]
    rw [hexec]
    refine ⟨fun hother => ?_, fun i t x u hdest hmsg => ?_⟩
    · rw [State.headUndelivered_eq_reported hout ((f.burnPair_eq_none_iff).2 hother)]
    · have hf : f.burnPair = some (i, t) := (f.burnPair_eq_some_iff i t).2 ⟨hdest, x, u, hmsg⟩
      exact ⟨fun o ho htag hs => by rw [State.headUndelivered_of_sending hout hf ho htag hs],
        fun hno => by rw [State.headUndelivered_of_retired hout hf hno]⟩

/-! ## The reply -/

/-- R84: the burned count, bounded by the units ordered, is all of them or fewer. -/
theorem reportOutcome_eq (ordered burned now : Nat) :
    reportOutcome ordered burned now = if min burned ordered = ordered then .full now else .short burned now := by
  unfold reportOutcome
  by_cases hlt : burned < ordered
  · rw [if_pos hlt, if_neg (by omega)]
  · rw [if_neg hlt, if_pos (by omega)]

/-- R84, R152: the head is taken, and the DE judges the report. -/
theorem exec_burnReport_eq {s : State} {i : StationId} {tag burned now : Nat} {rest : List RowInFrame}
    (hrun : s.running = true) (hin : s.rlc.inbound = ⟨i, .burnReport tag burned now⟩ :: rest) :
    exec .burnReport s = .next ((s.rowTaken rest).takeReport i tag burned now).refreshAttn := by
  rw [show exec .burnReport s = whenRunning State.takeBurnReport s from rfl, whenRunning_of_running _ s hrun]
  simp only [State.takeBurnReport, State.takeRow, hin]
  rfl

section
variable {s : State} {i : StationId} {tag : Nat} (burned now : Nat)

/-- R86: no order of the station has the tag. -/
theorem State.takeReport_of_unmatched (h : ∀ o, s.order i = some o → o.tag ≠ tag) :
    s.takeReport i tag burned now = s := by
  unfold State.takeReport
  split
  next o ho => exact if_neg (h o ho)
  next => rfl

/-- R84, R85: the tag is that of the station's order. -/
theorem State.takeReport_of_matched {o : BurnOrder} (ho : s.order i = some o) (htag : o.tag = tag) :
    s.takeReport i tag burned now = (s.retireTag i o).takeOutcome i o (reportOutcome o.units burned now) := by
  simp only [State.takeReport, ho, htag, if_true]

theorem State.retireTag_of_sending {o : BurnOrder} (hs : o.state = .sending) :
    s.retireTag i o = { s with de := { s.de with retired := s.de.retired ++ [(i, o.tag)] } } := by
  simp only [State.retireTag, hs]

theorem State.retireTag_of_not_sending {o : BurnOrder} (hs : o.state ≠ .sending) : s.retireTag i o = s := by
  unfold State.retireTag
  split
  next hsending => exact (hs hsending).elim
  next => rfl

end

/-- Settles O30: the tag decides whether a report counts, the state of the order whether its tag is retired. -/
theorem outcomeNamed : Obligations.OutcomeNamed := by
  refine ⟨fun s i tag burned now rest hrun hin => ?report, fun s i o hrun ho hawaiting => ?expiry⟩
  case report =>
    rw [exec_burnReport_eq hrun hin]
    refine ⟨fun hunmatched => ?_, fun o ho htag => ?_⟩
    · rw [State.takeReport_of_unmatched (s := s.rowTaken rest) burned now hunmatched]
    · have ho' : (s.rowTaken rest).order i = some o := ho
      rw [State.takeReport_of_matched burned now ho' htag, reportOutcome_eq]
      refine ⟨fun hs => ?_, fun hs => ?_⟩
      · rw [State.retireTag_of_sending hs, htag]
        rfl
      · rw [State.retireTag_of_not_sending hs]
  case expiry =>
    rw [show exec (.replyTimerExpiry i) s = whenRunning (State.replyExpires i) s from rfl, whenRunning_of_running _ s hrun]
    simp only [State.replyExpires, ho, hawaiting, if_true]

end Sys2Proof.Machine

/-! # Tariff banks (05): lookup, calendar and period, as choices of a greatest element -/

namespace Sys2Proof.Machine

/-! ## The greatest element of a list -/

/-- The greatest element, when no other is as great. -/
theorem argmax_eq_some_of_unique {α β : Type} [LinearOrder β] {f : α → β} {l : List α} {m : α} (hm : m ∈ l)
    (hmax : ∀ a ∈ l, f a ≤ f m) (huniq : ∀ a ∈ l, f a = f m → a = m) : l.argmax f = some m := by
  cases hc : l.argmax f with
  | none => rw [List.argmax_eq_none.1 hc] at hm; cases hm
  | some c =>
    have hcl : c ∈ l := List.argmax_mem hc
    rw [huniq c hcl (le_antisymm (hmax c hcl) (List.le_of_mem_argmax hm hc))]

/-! ## Lookup -/

/-- R107: the best match so far is replaced by a longer match only. -/
theorem longerMatch_eq (dialled : List Digit) : longerMatch dialled = fun best e =>
    if e.digits.isPrefixOf dialled then
      List.argAux (fun e f : PrefixEntry => f.digits.length < e.digits.length) best e
    else best := by
  funext best e
  cases best <;> rfl

/-- The entries whose digits begin the dialled ones. -/
def Bank.matching (x : Bank) (dialled : List Digit) : List PrefixEntry :=
  (x.prefixes.map Prod.snd).filter fun e => e.digits.isPrefixOf dialled

theorem Bank.mem_matching {x : Bank} {dialled : List Digit} {e : PrefixEntry} :
    e ∈ x.matching dialled ↔ (∃ k, (k, e) ∈ x.prefixes) ∧ e.digits <+: dialled := by
  simp [Bank.matching]

/-- R107: the lookup takes a longest of the matching entries. -/
theorem Bank.lookup_eq_argmax (x : Bank) (dialled : List Digit) :
    x.lookup dialled = ((x.matching dialled).argmax fun e => e.digits.length).map (·.action) := by
  rw [Bank.lookup, longerMatch_eq, List.argmax, Bank.matching, List.foldl_filter]

/-- R104: where digit strings stand once, two matching entries of one length are one. -/
theorem Bank.matching_unique {x : Bank} {dialled : List Digit} (hnodup : (x.prefixes.map fun e => e.2.digits).Nodup)
    {e f : PrefixEntry} (he : e ∈ x.matching dialled) (hf : f ∈ x.matching dialled)
    (hlength : f.digits.length = e.digits.length) : f = e := by
  obtain ⟨⟨j, hj⟩, hej⟩ := Bank.mem_matching.1 he
  obtain ⟨⟨k, hk⟩, hfk⟩ := Bank.mem_matching.1 hf
  have hdigits : f.digits = e.digits :=
    (List.prefix_of_prefix_length_le hfk hej hlength.le).eq_of_length hlength
  exact congrArg Prod.snd (List.inj_on_of_nodup_map hnodup hk hj hdigits)

/-- Settles O37: the lookup takes the longest matching entry, and digit strings that stand once leave one such entry. -/
theorem longestPrefixDecides : Obligations.LongestPrefixDecides := by
  intro x dialled
  rw [Bank.lookup_eq_argmax]
  refine ⟨fun hnone => ?_, fun hnodup ⟨k, e⟩ he hmatch hlongest => ?_⟩
  · have hempty : x.matching dialled = [] := List.eq_nil_iff_forall_not_mem.2 fun e he => by
      obtain ⟨⟨k, hk⟩, hmatch⟩ := Bank.mem_matching.1 he
      exact hnone _ hk hmatch
    rw [hempty]
    rfl
  · have hmem : e ∈ x.matching dialled := Bank.mem_matching.2 ⟨⟨k, he⟩, hmatch⟩
    rw [argmax_eq_some_of_unique hmem (fun f hf => ?_) fun f hf => Bank.matching_unique hnodup hmem hf]
    · rfl
    · obtain ⟨⟨j, hj⟩, hfmatch⟩ := Bank.mem_matching.1 hf
      exact hlongest _ hj hfmatch

/-! ## The calendar period -/

/-- R112: the latest slot is a slot of greatest minute. -/
theorem latestSlot_eq_argmax (l : List CalendarSlot) : latestSlot l = l.argmax CalendarSlot.minute := by
  induction l with
  | nil => rfl
  | cons c cs ih =>
    rw [latestSlot, ih, List.argmax_cons]
    cases cs.argmax CalendarSlot.minute <;> rfl

/-- Where minutes stand once, the slot that none exceeds is the latest. -/
theorem latestSlot_eq_some {l : List CalendarSlot} (hnodup : (l.map CalendarSlot.minute).Nodup) {c : CalendarSlot}
    (hc : c ∈ l) (hmax : ∀ e ∈ l, e.minute ≤ c.minute) : latestSlot l = some c := by
  rw [latestSlot_eq_argmax]
  exact argmax_eq_some_of_unique hc hmax fun e he hminute => List.inj_on_of_nodup_map hnodup he hc hminute

section
variable {x : Bank} {d : DayType} {m : Nat}

/-- R112: the latest slot at or before the minute. -/
theorem Bank.calendarPeriod_of_before (hnodup : ((x.daySlots d).map CalendarSlot.minute).Nodup) {c : CalendarSlot}
    (hc : c ∈ x.daySlots d) (hbefore : c.minute ≤ m)
    (hmax : ∀ e ∈ x.daySlots d, e.minute ≤ m → e.minute ≤ c.minute) : x.calendarPeriod d m = c.period := by
  have hlatest : latestSlot ((x.daySlots d).filter fun c => decide (c.minute ≤ m)) = some c := by
    refine latestSlot_eq_some (hnodup.sublist (List.filter_sublist.map _)) (by simp [hc, hbefore]) fun e he => ?_
    obtain ⟨hmem, hle⟩ := List.mem_filter.1 he
    exact hmax e hmem (of_decide_eq_true hle)
  simp only [Bank.calendarPeriod, hlatest]

theorem Bank.calendarPeriod_of_none_before (hafter : ∀ e ∈ x.daySlots d, m < e.minute) :
    x.calendarPeriod d m = ((latestSlot (x.daySlots d)).map CalendarSlot.period).getD 0 := by
  have hempty : (x.daySlots d).filter (fun c => decide (c.minute ≤ m)) = [] := by
    simpa using hafter
  simp only [Bank.calendarPeriod, hempty, latestSlot]
  cases latestSlot (x.daySlots d) <;> rfl

end

/-! ## The dearest period -/

/-- R127: units per length. -/
def BandEntry.ratio (e : BandEntry) : ℚ := e.units / e.length

/-- R127: the comparison without division is the comparison of the ratios. -/
theorem BandEntry.ratio_lt_iff {e f : BandEntry} (he : 1 ≤ e.length) (hf : 1 ≤ f.length) :
    f.ratio < e.ratio ↔ f.units * e.length < e.units * f.length := by
  have hep : (0 : ℚ) < e.length := by exact_mod_cast he
  have hfp : (0 : ℚ) < f.length := by exact_mod_cast hf
  rw [BandEntry.ratio, BandEntry.ratio, div_lt_div_iff₀ hfp hep]
  exact_mod_cast Iff.rfl

/-- Every entry of the band is valid and has a length. -/
def Bank.Timed (x : Bank) (b : Band) : Prop := ∀ p, ∃ e, x.bandEntry b p = some e ∧ 1 ≤ e.length

theorem Bank.Timed.one_le_length {x : Bank} {b : Band} (h : x.Timed b) (p : Period) : 1 ≤ (x.price b p).length := by
  obtain ⟨e, he, hlength⟩ := h p
  simpa only [Bank.price, he, Option.getD_some] using hlength

/-- A choice that starts from an element always has one. -/
theorem foldl_argAux_some {α : Type} (r : α → α → Prop) [DecidableRel r] (l : List α) (a : α) :
    l.foldl (List.argAux r) (some a) = some (l.foldl (fun best c => if r c best then c else best) a) := by
  induction l generalizing a with
  | nil => rfl
  | cons c l ih =>
    have hstep : List.argAux r (some a) c = some (if r c a then c else a) := (apply_ite some _ _ _).symm
    rw [List.foldl_cons, hstep, ih, List.foldl_cons]

/-- R127: the dearest period is the first of greatest ratio. -/
theorem Bank.Timed.dearestPeriod_mem_argmax {x : Bank} {b : Band} (h : x.Timed b) :
    x.dearestPeriod b ∈ [0, 1, 2, 3].argmax fun p => (x.price b p).ratio := by
  have hdearer : ∀ p q, (x.price b p).dearer (x.price b q) = true ↔ (x.price b q).ratio < (x.price b p).ratio :=
    fun p q => by rw [BandEntry.dearer, decide_eq_true_eq, BandEntry.ratio_lt_iff (h.one_le_length p) (h.one_le_length q)]
  have hfirst : [0, 1, 2, 3].argmax (fun p => (x.price b p).ratio) =
      [1, 2, 3].foldl (List.argAux fun p q => (x.price b q).ratio < (x.price b p).ratio) (some 0) := rfl
  rw [hfirst, foldl_argAux_some]
  simp only [Bank.dearestPeriod, hdearer, Option.mem_def]

/-- R127: no period has a greater ratio than the dearest one, and every lower period has a smaller one. -/
theorem Bank.Timed.ratio_dearestPeriod {x : Bank} {b : Band} (h : x.Timed b) (q : Period) :
    (x.price b q).ratio ≤ (x.price b (x.dearestPeriod b)).ratio ∧
      (q < x.dearestPeriod b → (x.price b q).ratio < (x.price b (x.dearestPeriod b)).ratio) := by
  obtain ⟨_, hmax, hfirst⟩ := List.mem_argmax_iff.1 h.dearestPeriod_mem_argmax
  have hmem : ∀ p : Period, p ∈ [0, 1, 2, 3] := by decide
  have hidx : ∀ p : Period, [0, 1, 2, 3].idxOf p = p.val := by decide
  refine ⟨hmax q (hmem q), fun hlt => lt_of_not_ge fun hge => ?_⟩
  have hle := hfirst q (hmem q) hge
  rw [hidx, hidx] at hle
  exact absurd hlt (Fin.not_lt.2 hle)

/-- Settles O38: the clock decides which bank period counts; slots and ratios are compared as choices of a greatest one. -/
theorem periodOfAPrice : Obligations.PeriodOfAPrice := by
  refine ⟨fun s x b htrusted => ?trusted, fun x d m => ⟨fun hnodup c hc hbefore hmax => ?before,
    fun hnodup hafter c hc hmax => ?after, fun hnone => ?noSlot⟩, fun s x b htrusted hvalid => ?untrusted⟩
  case trusted => rw [State.period, if_pos htrusted, TimeBase.minuteOfDay]
  case before => exact Bank.calendarPeriod_of_before hnodup hc hbefore hmax
  case after =>
    have hlatest : latestSlot (x.daySlots d) = some c := latestSlot_eq_some hnodup hc hmax
    rw [Bank.calendarPeriod_of_none_before hafter, hlatest]
    rfl
  case noSlot =>
    have hempty : x.daySlots d = [] := hnone
    rw [Bank.calendarPeriod_of_none_before (by simp [hempty]), hempty]
    rfl
  case untrusted =>
    have htimed : (s.bank x).Timed b := hvalid
    have hbest : s.period x b = (s.bank x).dearestPeriod b := by rw [State.period, htrusted]; rfl
    dsimp only
    rw [hbest]
    refine ⟨fun q => ?_, fun q hq => ?_⟩
    · have hle := (htimed.ratio_dearestPeriod q).1
      rwa [← not_lt, BandEntry.ratio_lt_iff (htimed.one_le_length _) (htimed.one_le_length _), not_lt] at hle
    · exact (BandEntry.ratio_lt_iff (htimed.one_le_length _) (htimed.one_le_length _)).1
        ((htimed.ratio_dearestPeriod q).2 hq)

end Sys2Proof.Machine

/-! # Tariff banks (05): activation and service -/

namespace Sys2Proof.Machine

/-! ## Validation and replacement -/

/-- R114: an entry that names a band is priced when the band is valid in every period. -/
theorem Bank.priced_iff (x : Bank) (e : PrefixEntry) :
    x.priced e = true ↔ ∀ b, e.action = .band b → ∀ p, x.bandEntry b p ≠ none := by
  have hall : ∀ q : Period → Bool, [0, 1, 2, 3].all q = true ↔ ∀ p, q p = true := by
    intro q
    simp only [List.all_eq_true]
    exact ⟨fun h p => h p (by revert p; decide), fun h p _ => h p⟩
  unfold Bank.priced
  cases e.action with
  | band b => simp only [hall, Option.isSome_iff_ne_none, Action.band.injEq, forall_eq']
  | free => simp
  | barred => simp

/-- R114. -/
theorem Bank.passes_iff (x : Bank) : x.passes = true ↔
    x.prefixes ≠ [] ∧ ∀ e ∈ x.prefixes, ∀ b, e.2.action = .band b → ∀ p, x.bandEntry b p ≠ none := by
  simp only [Bank.passes, Bool.and_eq_true, Bool.not_eq_true', List.isEmpty_eq_false_iff, List.all_map, List.all_eq_true,
    Function.comp_apply, Bank.priced_iff]

/-- R116: an ACTIVE bank that another replaces drains while it has pins; any other keeps its state. -/
theorem Bank.replaced_eq (b : Bank) : b.replaced = { b with
    state := if b.state = .active then (if 0 < b.pins then .draining else .standby) else b.state } := by
  unfold Bank.replaced
  cases hstate : b.state with
  | active =>
    by_cases hpins : b.pins = 0
    · simp [hpins]
    · simp [hpins, Nat.pos_of_ne_zero hpins]
  | empty => rfl
  | standby => rfl
  | draining => rfl

/-! ## The two requests -/

/-- R115: a request that names a bank. -/
theorem activateBank_of_bank {byte : Byte} {x : BankId} (h : bankOf byte.toNat = some x) (s : State) :
    activateBank [byte] s = ⟨(s.activate x).1, .nothing, (s.activate x).2⟩ := by
  simp only [activateBank, h]

/-- 11.4: no byte but 01h and 02h names a bank. -/
theorem bankOf_eq_none {byte : Byte} (ha : byte ≠ 1) (hb : byte ≠ 2) : bankOf byte.toNat = none := by
  unfold bankOf
  split
  next h => exact absurd (BitVec.eq_of_toNat_eq h) ha
  next h => exact absurd (BitVec.eq_of_toNat_eq h) hb
  next => rfl

/-- R183: no byte but 00h and 01h names a service state. -/
theorem serviceOf_eq_none {byte : Byte} (hclosed : byte ≠ 0) (hopened : byte ≠ 1) : serviceOf byte.toNat = none := by
  unfold serviceOf
  split
  next h => exact absurd (BitVec.eq_of_toNat_eq h) hclosed
  next h => exact absurd (BitVec.eq_of_toNat_eq h) hopened
  next => rfl

/-- R183: a request that names a service state, by the present one. -/
theorem setService_of_service {byte : Byte} {v : Service} (h : serviceOf byte.toNat = some v) (s : State) :
    setService [byte] s =
      if v = s.mu.service then ⟨.done, .nothing, s⟩
      else if v = .opened ∧ s.activeBank = none then ⟨.invalid, .nothing, s⟩
      else ⟨.done, .nothing, s.setService v⟩ := by
  simp only [setService, h]

/-- Settles O39: the byte names a bank, a service state or neither, and the present state decides. -/
theorem activationAndService : Obligations.ActivationAndService := by
  refine ⟨fun s x => ?bank, fun s b ha hb => ?noBank, fun s => ⟨fun hopen => ?opened, fun hclosed => ?closed,
    fun hclosed hnone => ?openInvalid, fun hclosed hsome => ?opens, fun hopen => ?closes,
    fun b hclosed hopened => ?noService⟩⟩
  case bank =>
    intro byte
    have hbyte : bankOf byte.toNat = some x := by cases x <;> rfl
    rw [activateBank_of_bank hbyte, State.activate]
    refine ⟨fun hstate => by rw [hstate], fun hstate => by rw [hstate], fun hstate => by rw [hstate], fun hstate => ?_⟩
    rw [hstate, ← Bank.passes_iff]
    exact ⟨fun hfails => by rw [if_neg hfails], fun hpasses => by rw [if_pos hpasses, Bank.replaced_eq]⟩
  case noBank => simp only [activateBank, bankOf_eq_none ha hb, refuse]
  case opened => rw [setService_of_service (v := .opened) rfl, if_pos hopen.symm]
  case closed => rw [setService_of_service (v := .closed) rfl, if_pos hclosed.symm]
  case openInvalid => rw [setService_of_service (v := .opened) rfl, if_neg (by simp [hclosed]), if_pos ⟨rfl, hnone⟩]
  case opens =>
    rw [setService_of_service (v := .opened) rfl, if_neg (by simp [hclosed]), if_neg fun h => hsome h.2]
    rfl
  case closes =>
    rw [setService_of_service (v := .closed) rfl, if_neg (by simp [hopen]), if_neg (by simp)]
    rfl
  case noService => simp only [setService, serviceOf_eq_none hclosed hopened, refuse]

end Sys2Proof.Machine

/-! # Tariff banks (05): what leaves the banks, and what leaves their entries, as they are -/

namespace Sys2Proof.Machine

/-! ## Operations that change no bank -/

/-- What every station's part keeps, all the stations' parts keep. -/
theorem foldl_stationIds_keeps {α : Type} (p : State → α) {f : State → StationId → State}
    (hf : ∀ u i, p (f u i) = p u) (s : State) : p (stationIds.foldl f s) = p s :=
  List.foldlRecOn (motive := fun u : State => p u = p s) stationIds f rfl fun u hu i _ => (hf u i).trans hu

section
variable (s : State) (i : StationId) (y : BankId)

@[simp] theorem State.removeCard_bank : (s.removeCard i).bank y = s.bank y := by
  unfold State.removeCard; split <;> rfl

/-- R15: a clear that the part starts does not complete, and so unpins no bank. -/
@[simp] theorem State.startClear_bank (c : EndCause) : (s.startClear i c).bank y = s.bank y := by
  rw [State.startClear_eq]; rfl

@[simp] theorem State.takeOut_bank (r : OutReason) : (s.takeOut i r).bank y = s.bank y := by
  unfold State.takeOut; split <;> simp

@[simp] theorem State.lostToBar_bank : (s.lostToBar i).bank y = s.bank y := by
  unfold State.lostToBar; split <;> simp

@[simp] theorem State.barCard_bank (x : Serial) (c : Byte) : (s.barCard i x c).bank y = s.bank y := by
  simp [State.barCard]

@[simp] theorem State.barIfCovered_bank (h : HotRange) : (State.barIfCovered h s i).bank y = s.bank y := by
  unfold State.barIfCovered; split <;> simp

@[simp] theorem State.barRange_bank (h : HotRange) : (s.barRange h).bank y = s.bank y :=
  foldl_stationIds_keeps (State.bank · y) (fun u i => u.barIfCovered_bank i y h) s

@[simp] theorem State.countStrike_bank (x : Serial) : (s.countStrike x).bank y = s.bank y := by
  unfold State.countStrike
  dsimp only
  split
  next =>
    split
    next =>
      split
      next => exact State.barCard_bank _ _ y _ _
      next => rfl
    next => rfl
  next => rfl

@[simp] theorem State.judgeCard_bank (x : Serial) (batch units : Nat) : (s.judgeCard i x batch units).bank y = s.bank y := by
  unfold State.judgeCard
  split
  next => rfl
  next => split <;> simp

@[simp] theorem State.cardUpdate_bank (o : BurnOrder) (out : OrderOutcome) : (s.cardUpdate o out).bank y = s.bank y := by
  unfold State.cardUpdate; split <;> rfl

@[simp] theorem State.markFinal_bank (c : FinalCause) : (s.markFinal i c).bank y = s.bank y := rfl

@[simp] theorem State.cutBack_bank (l : List Interval) (c : FinalCause) : (s.cutBack i l c).bank y = s.bank y := by
  unfold State.cutBack; dsimp only; split <;> simp

@[simp] theorem State.outcomeInTalk_bank (o : BurnOrder) (out : OrderOutcome) (x : CallContext) :
    (s.outcomeInTalk i o out x).bank y = s.bank y := by
  unfold State.outcomeInTalk; dsimp only; split <;> simp

@[simp] theorem State.retireTag_bank (o : BurnOrder) : (s.retireTag i o).bank y = s.bank y := by
  unfold State.retireTag; split <;> rfl

@[simp] theorem State.burnDelivered_bank (tag : Nat) : (s.burnDelivered i tag).bank y = s.bank y := by
  unfold State.burnDelivered; split <;> rfl

@[simp] theorem State.cardOut_bank : (s.cardOut i).bank y = s.bank y := by
  unfold State.cardOut; split <;> simp

@[simp] theorem State.putInService_bank : (s.putInService i).bank y = s.bank y := by
  unfold State.putInService; split <;> rfl

@[simp] theorem State.setMode_bank (k : Nat) (m : Mode) : (s.setMode i k m).bank y = s.bank y := by
  unfold State.setMode; dsimp only; split <;> simp

@[simp] theorem State.headDelivered_bank (f : RowOutFrame) : (s.headDelivered f).bank y = s.bank y := by
  unfold State.headDelivered
  dsimp only
  split
  next => exact State.burnDelivered_bank _ _ y _
  next => rfl

end

/-! ## Operations that change at most the state and the pin count of a bank -/

section
variable (s : State) (i : StationId) (y : BankId)

@[simp] theorem State.pinBank_entries (x : BankId) : ((s.pinBank x).bank y).entries = (s.bank y).entries :=
  (s.quiet_pinBank x).entries y

@[simp] theorem State.unpinBank_entries (x : BankId) : ((s.unpinBank x).bank y).entries = (s.bank y).entries :=
  (s.quiet_unpinBank x).entries y

/-- R21: a call that completes unpins its bank. -/
@[simp] theorem State.complete_entries (x : CallContext) : ((s.complete i x).bank y).entries = (s.bank y).entries := by
  unfold State.complete; dsimp only; split <;> simp

@[simp] theorem State.completeIfDone_entries : ((s.completeIfDone i).bank y).entries = (s.bank y).entries := by
  obtain h | ⟨x, _, _, _, _, h⟩ := s.completeIfDone_cases i
  · rw [h]
  · rw [h, State.complete_entries]

@[simp] theorem State.clearLinkDown_entries : ((s.clearLinkDown i).bank y).entries = (s.bank y).entries := by
  simp [State.clearLinkDown]

@[simp] theorem State.exchangeClear_entries (c : Byte) : ((s.exchangeClear i c).bank y).entries = (s.bank y).entries := by
  simp [State.exchangeClear]

@[simp] theorem State.releaseCall_entries : ((s.releaseCall i).bank y).entries = (s.bank y).entries := by
  unfold State.releaseCall
  split
  next => split <;> simp
  next => rfl

@[simp] theorem State.linkDownStation_entries : ((s.linkDownStation i).bank y).entries = (s.bank y).entries := by
  unfold State.linkDownStation; split <;> simp

@[simp] theorem State.resolveOrder_entries : ((s.resolveOrder i).bank y).entries = (s.bank y).entries := by
  simp [State.resolveOrder]

@[simp] theorem State.outcomeToCall_entries (o : BurnOrder) (out : OrderOutcome) :
    ((s.outcomeToCall i o out).bank y).entries = (s.bank y).entries := by
  unfold State.outcomeToCall; dsimp only; split <;> simp

@[simp] theorem State.outcomeSteps_entries (o : BurnOrder) (out : OrderOutcome) :
    ((s.outcomeSteps i o out).bank y).entries = (s.bank y).entries := by
  unfold State.outcomeSteps; dsimp only; split <;> simp

@[simp] theorem State.issueOrder_entries (x : Serial) (units : Nat) (p : Purpose) :
    ((s.issueOrder i x units p).bank y).entries = (s.bank y).entries := by
  unfold State.issueOrder
  dsimp only
  split
  next => rfl
  next => exact State.outcomeSteps_entries _ i y _ _

@[simp] theorem State.replenish_entries (x : BankId) (b : Band) (card : Serial) :
    ((s.replenish i x b card).bank y).entries = (s.bank y).entries := by
  unfold State.replenish; dsimp only; split <;> simp

@[simp] theorem State.considerReplenish_entries : ((s.considerReplenish i).bank y).entries = (s.bank y).entries := by
  unfold State.considerReplenish
  split
  next =>
    split
    next => split <;> simp
    next => rfl
  next => rfl

@[simp] theorem State.takeOutcome_entries (o : BurnOrder) (out : OrderOutcome) :
    ((s.takeOutcome i o out).bank y).entries = (s.bank y).entries := by
  unfold State.takeOutcome; split <;> simp

@[simp] theorem State.answerCharged_entries (x : BankId) (b : Band) :
    ((s.answerCharged i x b).bank y).entries = (s.bank y).entries := by
  unfold State.answerCharged
  dsimp only
  split
  next => split <;> simp [State.openTalk]
  next => simp

@[simp] theorem State.answerCall_entries : ((s.answerCall i).bank y).entries = (s.bank y).entries := by
  unfold State.answerCall
  split
  next => split <;> simp [State.answerFree]
  next => simp

@[simp] theorem State.headExpired_entries (x : CallContext) : ((s.headExpired i x).bank y).entries = (s.bank y).entries := by
  unfold State.headExpired
  split
  next => simp
  next => split <;> simp

@[simp] theorem State.takeReport_entries (tag burned now : Nat) :
    ((s.takeReport i tag burned now).bank y).entries = (s.bank y).entries := by
  unfold State.takeReport
  split
  next => split <;> simp
  next => rfl

@[simp] theorem State.burnUndelivered_entries (tag : Nat) :
    ((s.burnUndelivered i tag).bank y).entries = (s.bank y).entries := by
  unfold State.burnUndelivered; split <;> simp

@[simp] theorem State.headUndelivered_entries (f : RowOutFrame) :
    ((s.headUndelivered f).bank y).entries = (s.bank y).entries := by
  unfold State.headUndelivered
  dsimp only
  split
  next => exact State.burnUndelivered_entries _ _ y _
  next => rfl

@[simp] theorem State.transmissionFailed_entries (f : RowOutFrame) :
    ((s.transmissionFailed f).bank y).entries = (s.bank y).entries := by
  unfold State.transmissionFailed
  split
  next => rfl
  next => simp

@[simp] theorem State.judgeNumber_entries (digits : List Digit) :
    ((s.judgeNumber i digits).bank y).entries = (s.bank y).entries := by
  unfold State.judgeNumber
  split
  next x _ _ => exact s.pinBank_entries y x
  next => simp

@[simp] theorem State.exchangeClears_entries (c : Byte) : ((s.exchangeClears i c).bank y).entries = (s.bank y).entries := by
  unfold State.exchangeClears; split <;> simp

@[simp] theorem State.exchangeReleases_entries : ((s.exchangeReleases i).bank y).entries = (s.bank y).entries := by
  unfold State.exchangeReleases; split <;> simp

/-- R115, R116: an activation changes the states of the banks. -/
@[simp] theorem State.activate_entries (x : BankId) : ((s.activate x).2.bank y).entries = (s.bank y).entries := by
  unfold State.activate
  split
  next => rfl
  next => rfl
  next => rfl
  next =>
    split
    next =>
      have hactive := s.quiet_setBank x { s.bank x with state := .active } rfl
      exact (hactive.trans (State.quiet_setBank _ x.other (s.bank x.other).replaced
        (by rw [State.setBank_other]; rfl))).entries y
    next => rfl

/-- R28: a call that a line restart stores unpins its bank. -/
@[simp] theorem State.restartStation_entries : ((s.restartStation i).bank y).entries = (s.bank y).entries :=
  (s.calm_restartStation i).1.entries y

@[simp] theorem State.restartLine_entries : (s.restartLine.bank y).entries = (s.bank y).entries := by
  have hstations : ((stationIds.foldl State.restartStation s).bank y).entries = (s.bank y).entries :=
    foldl_stationIds_keeps (fun u : State => (u.bank y).entries) (fun u i => u.restartStation_entries i y) s
  unfold State.restartLine
  generalize stationIds.foldl State.restartStation s = u at hstations
  exact hstations

end

end Sys2Proof.Machine

/-! # Tariff banks (05): no command but WRITE_ENTRIES and the power events writes an entry -/

namespace Sys2Proof.Machine

/-! ## Management requests -/

section
variable (s : State) (data : List Byte) (y : BankId)

theorem selectPage_entries : ((selectPage data s).state.bank y).entries = (s.bank y).entries := by
  unfold selectPage
  split
  next => split <;> rfl
  next => rfl

theorem State.readAll_bank (n : Nat) : (s.readAll n).2.bank y = s.bank y := by
  induction n generalizing s with
  | zero => rfl
  | succ n ih => exact ih s.advancePointer

theorem readEntries_entries : ((readEntries data s).state.bank y).entries = (s.bank y).entries := by
  unfold readEntries
  split
  next =>
    split
    next => rw [State.readAll_bank]
    next => rfl
  next => rfl

theorem activateBank_entries : ((activateBank data s).state.bank y).entries = (s.bank y).entries := by
  unfold activateBank
  split
  next =>
    split
    next => exact s.activate_entries y _
    next => rfl
  next => rfl

theorem setService_entries : ((setService data s).state.bank y).entries = (s.bank y).entries := by
  unfold setService
  split
  next =>
    split
    next => rfl
    next => split_ifs <;> rfl
  next => rfl

theorem setStation_entries : ((setStation data s).state.bank y).entries = (s.bank y).entries := by
  unfold setStation
  split
  next =>
    split
    next => split <;> simp [refuse]
    next => rfl
  next => rfl

theorem readStation_entries : ((readStation data s).state.bank y).entries = (s.bank y).entries := by
  unfold readStation
  split
  next => split <;> rfl
  next => rfl

theorem readStatus_entries : ((readStatus data s).state.bank y).entries = (s.bank y).entries := by
  unfold readStatus; split <;> rfl

theorem fetchRecord_entries : ((fetchRecord data s).state.bank y).entries = (s.bank y).entries := by
  unfold fetchRecord
  split
  next =>
    split
    next => rfl
    next => split <;> rfl
  next => rfl

theorem releaseRecords_entries : ((releaseRecords data s).state.bank y).entries = (s.bank y).entries := by
  unfold releaseRecords; split <;> rfl

theorem removeAutobar_entries : ((removeAutobar data s).state.bank y).entries = (s.bank y).entries := by
  unfold removeAutobar
  split
  next => split <;> rfl
  next => rfl

theorem restartLine_request_entries : ((restartLine data s).state.bank y).entries = (s.bank y).entries := by
  unfold restartLine
  split
  next => rw [State.refreshAttn_bank, State.restartLine_entries]
  next => rfl

end

/-! ## A busy bank under WRITE_ENTRIES -/

section
variable {s : State} {x : BankId}

theorem Bank.busy_iff (b : Bank) : b.busy = true ↔ b.state = .active ∨ b.state = .draining := by
  simp [Bank.busy]

/-- R104: an entry offered to a bank leaves a busy bank as it is: refused there, stored in the other. -/
theorem State.writeBank_bank_of_busy {α : Type} (hbusy : (s.bank x).busy = true) (z : BankId) (e : EntryRead α)
    (repeats : Bank → α → Bool) (store : Option α → Bank → Bank) :
    (s.writeBank z e repeats store).2.bank x = s.bank x := by
  unfold State.writeBank
  dsimp only
  split
  next => rfl
  next hfree =>
    obtain rfl | rfl := z.eq_or_other x
    · exact absurd hbusy hfree
    · split
      next => rfl
      next => exact State.setBank_other _ _ _
      next =>
        split
        next => rfl
        next => exact State.setBank_other _ _ _

theorem State.writeHot_bank (k : Nat) (e : EntryRead HotRange) : (s.writeHot k e).2.bank x = s.bank x := by
  unfold State.writeHot
  dsimp only
  split
  next => rfl
  next => rfl
  next =>
    split
    next => rfl
    next => rw [State.barRange_bank]; rfl

theorem State.writeBatch_bank (k : Nat) (e : EntryRead BatchEntry) : (s.writeBatch k e).2.bank x = s.bank x := by
  unfold State.writeBatch
  dsimp only
  split
  next => rfl
  next => rfl
  next => split <;> rfl

/-- R181: no page's entry changes a busy bank. -/
theorem State.writeEntry_bank_of_busy (hbusy : (s.bank x).busy = true) (bytes : List Byte) :
    (s.writeEntry bytes).2.bank x = s.bank x := by
  cases hsel : s.mu.selector with
  | hot page => rw [State.writeEntry_hot hsel, State.writeHot_bank]
  | batch => rw [State.writeEntry_batch hsel, State.writeBatch_bank]
  | prefixes z page => rw [State.writeEntry_prefixes hsel, State.writeBank_bank_of_busy hbusy]
  | bands z => rw [State.writeEntry_bands hsel, State.writeBank_bank_of_busy hbusy]
  | calendar z => rw [State.writeEntry_calendar hsel, State.writeBank_bank_of_busy hbusy]
  | autobar => rw [State.writeEntry_autobar hsel]

theorem State.writeAll_bank_of_busy (hbusy : (s.bank x).busy = true) (es : List (List Byte)) (n : Nat) :
    (s.writeAll es n).state.bank x = s.bank x := by
  induction es generalizing s n with
  | nil => rfl
  | cons e es ih =>
    have hone := State.writeEntry_bank_of_busy hbusy e
    unfold State.writeAll
    split
    next u heq =>
      have hu : u.advancePointer.bank x = s.bank x := by rw [← hone, heq]; rfl
      rw [ih (hu ▸ hbusy), hu]
    next st u _ heq => rw [← hone, heq]

theorem writeEntries_bank_of_busy (hbusy : (s.bank x).busy = true) (data : List Byte) :
    (writeEntries data s).state.bank x = s.bank x := by
  unfold writeEntries
  split
  next => rfl
  next =>
    split_ifs
    · rfl
    · exact State.writeAll_bank_of_busy hbusy _ 0
    · rfl

end

/-! ## Taking from the inbound queues -/

section
variable (s : State) (y : BankId)

theorem State.takeRow_bank {u : State} {f : RowInFrame} (h : s.takeRow = some (f, u)) : u.bank y = s.bank y := by
  obtain ⟨rest, _, rfl⟩ := State.takeRow_eq_some h
  rfl

theorem State.takeLink_bank {u : State} {m : LinkInMsg} (h : s.takeLink = some (m, u)) : u.bank y = s.bank y := by
  obtain ⟨rest, _, rfl⟩ := State.takeLink_eq_some h
  rfl

/-- R177: what a request keeps of a bank, its command keeps. -/
theorem State.runRequest_entries (name : Byte) {handle : List Byte → State → Answer}
    (hhandle : ∀ u : State, u.bank y = s.bank y → ∀ data, ((handle data u).state.bank y).entries = (u.bank y).entries) :
    ((s.runRequest name handle).bank y).entries = (s.bank y).entries := by
  unfold State.runRequest
  split
  next data u htake =>
    have hu := s.takeLink_bank y htake
    split
    next => exact (hhandle u hu data).trans (by rw [hu])
    next => rfl
  next => rfl

theorem State.runUnknown_entries : (s.runUnknown.bank y).entries = (s.bank y).entries := by
  unfold State.runUnknown
  split
  next htake =>
    split
    next => rfl
    next =>
      have hu := s.takeLink_bank y htake
      exact congrArg Bank.entries hu
  next => rfl

theorem State.takeCardIn_entries : (s.takeCardIn.bank y).entries = (s.bank y).entries := by
  unfold State.takeCardIn
  split
  next htake => rw [State.judgeCard_bank, s.takeRow_bank y htake]
  next => rfl

theorem State.takeCardOut_entries : (s.takeCardOut.bank y).entries = (s.bank y).entries := by
  unfold State.takeCardOut
  split
  next htake => rw [State.cardOut_bank, s.takeRow_bank y htake]
  next => rfl

theorem State.takeNumber_entries : (s.takeNumber.bank y).entries = (s.bank y).entries := by
  unfold State.takeNumber
  split
  next htake => rw [State.judgeNumber_entries, s.takeRow_bank y htake]
  next => rfl

theorem State.takeHookOn_entries : (s.takeHookOn.bank y).entries = (s.bank y).entries := by
  unfold State.takeHookOn
  split
  next htake =>
    split
    next => rw [State.startClear_bank, s.takeRow_bank y htake]
    next => rw [s.takeRow_bank y htake]
  next => rfl

theorem State.takeBurnReport_entries : (s.takeBurnReport.bank y).entries = (s.bank y).entries := by
  unfold State.takeBurnReport
  split
  next htake => rw [State.refreshAttn_bank, State.takeReport_entries, s.takeRow_bank y htake]
  next => rfl

theorem State.takeCallAnswered_entries : (s.takeCallAnswered.bank y).entries = (s.bank y).entries := by
  unfold State.takeCallAnswered
  split
  next htake => rw [State.refreshAttn_bank, State.answerCall_entries, s.takeLink_bank y htake]
  next => rfl

theorem State.takeCallClear_entries : (s.takeCallClear.bank y).entries = (s.bank y).entries := by
  unfold State.takeCallClear
  split
  next htake => rw [State.refreshAttn_bank, State.exchangeClears_entries, s.takeLink_bank y htake]
  next => rfl

theorem State.takeCallReleased_entries : (s.takeCallReleased.bank y).entries = (s.bank y).entries := by
  unfold State.takeCallReleased
  split
  next htake => rw [State.refreshAttn_bank, State.exchangeReleases_entries, s.takeLink_bank y htake]
  next => rfl

theorem State.takeClock_entries : (s.takeClock.bank y).entries = (s.bank y).entries := by
  unfold State.takeClock
  split
  next htake =>
    have hu := s.takeLink_bank y htake
    exact congrArg Bank.entries hu
  next => rfl

end

/-! ## The row line and the timers -/

section
variable (s : State) (y : BankId)

theorem State.lineFree_entries : (s.lineFree.bank y).entries = (s.bank y).entries := by
  unfold State.lineFree; split <;> rfl

theorem State.retryDue_entries : (s.retryDue.bank y).entries = (s.bank y).entries := by
  unfold State.retryDue; split <;> rfl

theorem State.spoiled_entries : (s.spoiled.bank y).entries = (s.bank y).entries := by
  unfold State.spoiled; split <;> simp

theorem State.slotEnds_entries (heard : Option Byte) : ((State.slotEnds heard s).bank y).entries = (s.bank y).entries := by
  unfold State.slotEnds
  split
  next => rfl
  next =>
    split
    next => rfl
    next => split <;> simp

theorem State.broadcastEnds_entries : (s.broadcastEnds.bank y).entries = (s.bank y).entries := by
  unfold State.broadcastEnds
  split
  next => rfl
  next => split <;> simp

theorem State.answerExpires_entries (i : StationId) :
    ((State.answerExpires i s).bank y).entries = (s.bank y).entries := by
  unfold State.answerExpires; split <;> simp

theorem State.releaseExpires_entries (i : StationId) :
    ((State.releaseExpires i s).bank y).entries = (s.bank y).entries := by
  unfold State.releaseExpires; split <;> simp

theorem State.headExpires_entries (i : StationId) : ((State.headExpires i s).bank y).entries = (s.bank y).entries := by
  unfold State.headExpires; split <;> simp

theorem State.replyExpires_entries (i : StationId) : ((State.replyExpires i s).bank y).entries = (s.bank y).entries := by
  unfold State.replyExpires
  split
  next => split <;> simp
  next => rfl

theorem State.rememberExpires_entries (x : Serial) :
    ((State.rememberExpires x s).bank y).entries = (s.bank y).entries := by
  unfold State.rememberExpires
  split
  next => split <;> rfl
  next => rfl

/-- R173: a call that link DOWN completes unpins its bank. -/
theorem State.silenceExpires_entries : (s.silenceExpires.bank y).entries = (s.bank y).entries := by
  have hstations : ((stationIds.foldl State.linkDownStation { s with xlc := s.xlc.goDown }).bank y).entries =
      (s.bank y).entries :=
    foldl_stationIds_keeps (fun u : State => (u.bank y).entries) (fun u i => u.linkDownStation_entries i y) _
  unfold State.silenceExpires
  split
  next => rw [State.refreshAttn_bank, hstations]
  next => rfl

theorem State.untrustExpires_entries : (s.untrustExpires.bank y).entries = (s.bank y).entries := by
  unfold State.untrustExpires; split <;> rfl

end

/-! ## Every command -/

section
variable {s t : State} {x : BankId}

theorem entries_of_whenRunning {f : State → State} (hf : ((f s).bank x).entries = (s.bank x).entries)
    (h : whenRunning f s = .next t) : (t.bank x).entries = (s.bank x).entries := by
  rw [whenRunning_next f s t h]
  split
  next => exact hf
  next => rfl

/-- R104, R118: only WRITE_ENTRIES and the power events change entries of a bank, and WRITE_ENTRIES none of a busy one. -/
theorem exec_entries {c : Instr} (hpower : ofPower c = false) (hwrite : c = .writeEntries → (s.bank x).busy = true)
    (h : exec c s = .next t) : (t.bank x).entries = (s.bank x).entries := by
  cases c with
  | powerUp => cases hpower
  | resetAsserted => cases hpower
  | powerLoss => cases hpower
  | vbakLost => cases hpower
  | rowFrameReceived bytes => exact entries_of_whenRunning (f := State.rowReceived bytes) rfl h
  | cardIn => exact entries_of_whenRunning (s.takeCardIn_entries x) h
  | cardOut => exact entries_of_whenRunning (s.takeCardOut_entries x) h
  | number => exact entries_of_whenRunning (s.takeNumber_entries x) h
  | hookOn => exact entries_of_whenRunning (s.takeHookOn_entries x) h
  | burnReport => exact entries_of_whenRunning (s.takeBurnReport_entries x) h
  | lineFree => exact entries_of_whenRunning (s.lineFree_entries x) h
  | retry => exact entries_of_whenRunning (s.retryDue_entries x) h
  | spoiledTransmission => exact entries_of_whenRunning (s.spoiled_entries x) h
  | acknowledgeSlot heard => exact entries_of_whenRunning (s.slotEnds_entries x heard) h
  | broadcastSent => exact entries_of_whenRunning (s.broadcastEnds_entries x) h
  | linkFrameReceived bytes => exact entries_of_whenRunning (f := State.linkReceived bytes) rfl h
  | callAnswered => exact entries_of_whenRunning (s.takeCallAnswered_entries x) h
  | callClear => exact entries_of_whenRunning (s.takeCallClear_entries x) h
  | callReleased => exact entries_of_whenRunning (s.takeCallReleased_entries x) h
  | clock => exact entries_of_whenRunning (s.takeClock_entries x) h
  | linkFrameSent => exact entries_of_whenRunning (f := State.linkSent) rfl h
  | selectPage => exact entries_of_whenRunning (s.runRequest_entries x _ fun u _ data => selectPage_entries u data x) h
  | writeEntries =>
    exact entries_of_whenRunning (s.runRequest_entries x _ fun u hu data =>
      congrArg Bank.entries (writeEntries_bank_of_busy (hu ▸ hwrite rfl) data)) h
  | readEntries => exact entries_of_whenRunning (s.runRequest_entries x _ fun u _ data => readEntries_entries u data x) h
  | activateBank => exact entries_of_whenRunning (s.runRequest_entries x _ fun u _ data => activateBank_entries u data x) h
  | setService => exact entries_of_whenRunning (s.runRequest_entries x _ fun u _ data => setService_entries u data x) h
  | setStation => exact entries_of_whenRunning (s.runRequest_entries x _ fun u _ data => setStation_entries u data x) h
  | readStation => exact entries_of_whenRunning (s.runRequest_entries x _ fun u _ data => readStation_entries u data x) h
  | readStatus => exact entries_of_whenRunning (s.runRequest_entries x _ fun u _ data => readStatus_entries u data x) h
  | fetchRecord => exact entries_of_whenRunning (s.runRequest_entries x _ fun u _ data => fetchRecord_entries u data x) h
  | releaseRecords =>
    exact entries_of_whenRunning (s.runRequest_entries x _ fun u _ data => releaseRecords_entries u data x) h
  | removeAutobar => exact entries_of_whenRunning (s.runRequest_entries x _ fun u _ data => removeAutobar_entries u data x) h
  | restartLine =>
    exact entries_of_whenRunning (s.runRequest_entries x _ fun u _ data => restartLine_request_entries u data x) h
  | mgmtRequestUnknown => exact entries_of_whenRunning (s.runUnknown_entries x) h
  | answerTimerExpiry i => exact entries_of_whenRunning (s.answerExpires_entries x i) h
  | releaseTimerExpiry i => exact entries_of_whenRunning (s.releaseExpires_entries x i) h
  | headIntervalExpiry i => exact entries_of_whenRunning (s.headExpires_entries x i) h
  | replyTimerExpiry i => exact entries_of_whenRunning (s.replyExpires_entries x i) h
  | rememberTimerExpiry serial => exact entries_of_whenRunning (s.rememberExpires_entries x serial) h
  | silenceTimerExpiry => exact entries_of_whenRunning (s.silenceExpires_entries x) h
  | untrustTimerExpiry => exact entries_of_whenRunning (s.untrustExpires_entries x) h
  | timeOfDayTick => exact entries_of_whenRunning (f := State.tick) rfl h

end

/-- Settles O60: WRITE_ENTRIES refuses a busy bank, and no other command writes entries. -/
theorem busyBankEntriesNeverChange : Obligations.BusyBankEntriesNeverChange := by
  intro c s t x hpower h hbusy
  have hentries := exec_entries hpower (fun _ => (s.bank x).busy_iff.2 hbusy) h
  simpa only [Bank.entries, Prod.mk.injEq] using hentries

end Sys2Proof.Machine

/-! # Time of day (06): the CLOCK frame, the untrust timer and a tenth of elapsed time -/

namespace Sys2Proof.Machine

/-! ## The content of a CLOCK frame -/

/-- R190: a byte names the day type whose code it is, and no other. -/
theorem dayTypeOf_eq_some_iff (b : Byte) (t : DayType) : dayTypeOf b.toNat = some t ↔ b = code (DayType.code t) := by
  refine ⟨fun h => BitVec.eq_of_toNat_eq ?_, fun h => by rw [h]; cases t <;> rfl⟩
  unfold dayTypeOf at h
  split at h
  next hb => cases h; exact hb
  next hb => cases h; exact hb
  next hb => cases h; exact hb
  next => cases h

/-- The date a CLOCK frame carries. -/
def ClockFrame.date (f : ClockFrame) : Date := { year := f.year.toNat, month := f.month.toNat, day := f.day.toNat }

/-- The time of day a CLOCK frame sets: tenths 0 (R123). -/
def ClockFrame.time (f : ClockFrame) : TimeOfDay :=
  { hour := f.hour.toNat, minute := f.minute.toNat, second := f.second.toNat, tenth := 0 }

/-- R123: a real date and a time of day in range. -/
def ClockFrame.InRange (f : ClockFrame) : Prop :=
  f.date.real = true ∧ f.time.hour ≤ 23 ∧ f.time.minute ≤ 59 ∧ f.time.second ≤ 59

theorem Date.real_iff (d : Date) : d.real = true ↔
    d.year ≤ 99 ∧ 1 ≤ d.month ∧ d.month ≤ 12 ∧ 1 ≤ d.day ∧ d.day ≤ monthLength d.year d.month :=
  decide_eq_true_iff

section
variable (b : TimeBase) {f : ClockFrame}

/-- R123: a frame that passes every check sets every field of the TB. -/
theorem TimeBase.accept_of_good {t : DayType} (hday : dayTypeOf f.dayType.toNat = some t) (hrange : f.InRange) :
    b.accept f = { date := f.date, dayType := t, time := f.time, trusted := true, untrust := some untrustTime } := by
  unfold TimeBase.accept
  simp only [hday]
  exact if_pos hrange

/-- R123: a frame without one of the three day types is discarded. -/
theorem TimeBase.accept_of_no_dayType (hday : dayTypeOf f.dayType.toNat = none) : b.accept f = b := by
  unfold TimeBase.accept
  simp only [hday]

/-- R123: a frame without a real date or with a time out of range is discarded. -/
theorem TimeBase.accept_of_not_inRange (hrange : ¬f.InRange) : b.accept f = b := by
  cases hday : dayTypeOf f.dayType.toNat with
  | none => exact b.accept_of_no_dayType hday
  | some t =>
    unfold TimeBase.accept
    simp only [hday]
    exact if_neg hrange

end

/-! ## The two commands that reach trusted -/

/-- The CLOCK at the head of the link's inbound queue leaves it and is handed to the TB, and ATTN follows. -/
theorem exec_clock_of_head {s : State} {f : ClockFrame} {rest : List LinkInMsg} (hrun : s.running = true)
    (hhead : s.xlc.inbound = .clock f :: rest) :
    exec .clock s = .next { s.linkTaken rest with tb := s.tb.accept f }.refreshAttn := by
  have harm : exec .clock s = whenRunning State.takeClock s := rfl
  have htake : s.takeLink = some (.clock f, s.linkTaken rest) := by rw [State.takeLink, hhead]; rfl
  rw [harm, whenRunning_of_running _ s hrun, State.takeClock, htake]
  rfl

/-- R124: with no time left (log 3), the command clears trusted and stops the timer, and ATTN follows. -/
theorem exec_untrustTimerExpiry_of_due {s : State} (hrun : s.running = true) (huntrust : s.tb.untrust = some 0) :
    exec .untrustTimerExpiry s = .next { s with tb := { s.tb with trusted := false, untrust := none } }.refreshAttn := by
  have harm : exec .untrustTimerExpiry s = whenRunning State.untrustExpires s := rfl
  have hdue : timerDue s.tb.untrust = true := by rw [huntrust]; rfl
  rw [harm, whenRunning_of_running _ s hrun, State.untrustExpires, if_pos hdue]

/-- Settles O34: the CLOCK reaches the TB, whose checks decide; the expiry finds its timer due. -/
theorem clockSetAndUntrusted : Obligations.ClockSetAndUntrusted := by
  refine ⟨fun s f rest hrun hhead => ?_, fun s hrun huntrust => exec_untrustTimerExpiry_of_due hrun huntrust⟩
  intro d good
  have hgood : good ↔ f.InRange := by
    rw [ClockFrame.InRange, Date.real_iff, and_assoc, and_assoc, and_assoc, and_assoc]
    rfl
  rw [exec_clock_of_head hrun hhead]
  refine ⟨fun t hday hg => ?accepted, ?discarded⟩
  case accepted =>
    rw [s.tb.accept_of_good ((dayTypeOf_eq_some_iff _ t).2 hday) (hgood.1 hg)]
    rfl
  case discarded =>
    rintro (hday | hbad)
    · have hnone : dayTypeOf f.dayType.toNat = none :=
        Option.eq_none_iff_forall_ne_some.2 fun t ht => hday t ((dayTypeOf_eq_some_iff _ t).1 ht)
      rw [s.tb.accept_of_no_dayType hnone]
      rfl
    · rw [s.tb.accept_of_not_inRange (mt hgood.2 hbad)]
      rfl

/-! ## A tenth of elapsed time on the clock -/

/-- R121: the tenths since midnight. -/
def TimeOfDay.tenths (t : TimeOfDay) : Nat := ((t.hour * 60 + t.minute) * 60 + t.second) * 10 + t.tenth

/-- R121: a time of day from 00:00:00.0 to 23:59:59.9. -/
def TimeOfDay.InRange (t : TimeOfDay) : Prop := t.hour ≤ 23 ∧ t.minute ≤ 59 ∧ t.second ≤ 59 ∧ t.tenth ≤ 9

section
variable {t : TimeOfDay}

/-- R122: before the last tenth of a day the carries raise the time of day by one tenth, short of midnight. -/
theorem TimeOfDay.next_of_before_midnight (hrange : t.InRange) (hbefore : t.tenths + 1 < 864000) :
    t.next.1.tenths = t.tenths + 1 ∧ t.next.2 = false := by
  obtain ⟨hhour, hminute, hsecond, htenth⟩ := hrange
  unfold TimeOfDay.tenths at *
  unfold TimeOfDay.next
  split_ifs
  case neg => exact absurd hbefore (by omega)
  all_goals exact ⟨by dsimp only; omega, rfl⟩

/-- R122: past the last tenth of a day the time of day is 00:00:00.0, and midnight is passed. -/
theorem TimeOfDay.next_of_last_tenth (hrange : t.InRange) (hlast : t.tenths + 1 = 864000) :
    t.next.1.tenths = 0 ∧ t.next.2 = true := by
  obtain ⟨hhour, hminute, hsecond, htenth⟩ := hrange
  unfold TimeOfDay.tenths at hlast
  have hlastHour : t.hour = 23 := by omega
  have hlastSecond : t.minute = 59 ∧ t.second = 59 := by omega
  have hlastTenth : t.tenth = 9 := by omega
  simp [TimeOfDay.next, TimeOfDay.tenths, hlastHour, hlastSecond, hlastTenth]

end

/-- R122: within the century's years, the date a day later with the year counted modulo 100. -/
theorem Date.next_eq {d : Date} (hyear : d.year ≤ 99) :
    d.next =
      if d = Date.zero then Date.zero
      else if d.day < monthLength d.year d.month then { d with day := d.day + 1 }
      else if d.month < 12 then { d with month := d.month + 1, day := 1 }
      else { year := (d.year + 1) % 100, month := 1, day := 1 } := by
  have hwrap : (if d.year < 99 then d.year + 1 else 0) = (d.year + 1) % 100 := by split <;> omega
  rw [Date.next, hwrap]
  split
  next hzero => exact hzero
  next => rfl

section
variable {b : TimeBase}

theorem TimeBase.Legal.time_inRange (h : b.Legal) : b.time.InRange := by
  obtain ⟨_, hhour, hminute, hsecond, htenth, _⟩ := h
  exact ⟨hhour, hminute, hsecond, htenth⟩

theorem TimeBase.Legal.year_le (h : b.Legal) : b.date.year ≤ 99 := by
  obtain ⟨hzero | hreal, _⟩ := h
  · rw [hzero]; exact Nat.zero_le _
  · exact ((Date.real_iff _).1 hreal).1

theorem TimeBase.advance_of_before_midnight (h : b.Legal) (hbefore : b.time.tenths + 1 < 864000) :
    b.advance.time.tenths = b.time.tenths + 1 ∧ b.advance.date = b.date := by
  obtain ⟨htime, hmidnight⟩ := TimeOfDay.next_of_before_midnight h.time_inRange hbefore
  exact ⟨htime, by simp only [TimeBase.advance, hmidnight, Bool.false_eq_true, if_false]⟩

theorem TimeBase.advance_of_last_tenth (h : b.Legal) (hlast : b.time.tenths + 1 = 864000) :
    b.advance.time.tenths = 0 ∧ b.advance.date = b.date.next := by
  obtain ⟨htime, hmidnight⟩ := TimeOfDay.next_of_last_tenth h.time_inRange hlast
  exact ⟨htime, by simp only [TimeBase.advance, hmidnight, if_true]⟩

end

/-! ## A tenth of elapsed time on the timers -/

theorem BurnOrder.tick_of_sending {o : BurnOrder} (h : o.state = .sending) : o.tick = o := by
  cases o; cases h; rfl

theorem BurnOrder.tick_of_awaiting {o : BurnOrder} {n : Nat} (h : o.state = .awaiting n) :
    o.tick = { o with state := .awaiting (n - 1) } := by
  rw [BurnOrder.tick, h]

theorem CardRecord.tick_of_active {r : CardRecord} {i : StationId} (h : r.state = .active i) : r.tick = r := by
  cases r; cases h; rfl

theorem CardRecord.tick_of_remembered {r : CardRecord} {n : Nat} (h : r.state = .remembered n) :
    r.tick = { r with state := .remembered (n - 1) } := by
  rw [CardRecord.tick, h]

theorem State.tick_station (s : State) (i : StationId) : s.tick.station i = (s.station i).tick :=
  PerStation.get_map _ _ _

theorem State.tick_order (s : State) (i : StationId) : s.tick.order i = (s.order i).map BurnOrder.tick :=
  PerStation.get_map _ _ _

/-- Settles O35: the clock by its carries and the calendar, every timer by its own tick. -/
theorem tickOfElapsedTime : Obligations.TickOfElapsedTime := by
  intro s hrun
  refine ⟨s.tick, whenRunning_of_running State.tick s hrun, rfl, fun hlegal => ⟨?before, ?midnight⟩, rfl, rfl, rfl, rfl,
    s.tick_station, fun i => ?orders, ?cards, rfl⟩
  case before => exact TimeBase.advance_of_before_midnight hlegal
  case midnight =>
    intro hlast
    obtain ⟨htime, hdate⟩ := TimeBase.advance_of_last_tenth hlegal hlast
    exact ⟨htime, hdate.trans (Date.next_eq hlegal.year_le)⟩
  case orders =>
    rw [s.tick_order i]
    refine Option.map_congr fun o _ => ?_
    cases hs : o.state with
    | sending => exact BurnOrder.tick_of_sending hs
    | awaiting n => exact BurnOrder.tick_of_awaiting hs
  case cards =>
    refine List.map_congr_left fun r _ => ?_
    cases hs : r.state with
    | active i => exact CardRecord.tick_of_active hs
    | remembered n => exact CardRecord.tick_of_remembered hs

end Sys2Proof.Machine

/-! # The call record queue (07): the retained store and ATTN of a running part -/

namespace Sys2Proof.Machine

/-! ## The words: a store that is current, and a part that runs right -/

/-- R141: the retained store holds the queue and the next record number, under a good check. -/
def RecordQueue.Stored (q : RecordQueue) : Prop :=
  q.store = { records := q.records, nextNumber := q.nextNumber, checkAgrees := true, vbakHeld := true }

/-- A running part whose retained store is current; ATTN may wait for its evaluation. -/
structure State.RunsStored (s : State) : Prop where
  running : s.running = true
  stored : s.rq.Stored

/-- R144: besides, ATTN is at its level. -/
structure State.RunsRight (s : State) : Prop extends s.RunsStored where
  attn : s.pins.attn = s.attnHolds

theorem State.running_iff (s : State) : s.running = true ↔ s.pins.supply = true ∧ s.pins.reset = false := by
  simp [State.running]

/-- Of a part that runs, the invariant says that it runs right. -/
theorem State.powerRight_iff_of_running {s : State} (hrun : s.running = true) : s.PowerRight ↔ s.RunsRight := by
  obtain ⟨hsupply, hreset⟩ := s.running_iff.1 hrun
  have hattn : s.AttnRight ↔ s.pins.attn = s.attnHolds := by
    rw [Bool.eq_iff_iff, State.attnHolds_iff]
    simp [State.AttnRight, hsupply, hreset]
  constructor
  · rintro ⟨_, hlevel, hstore⟩
    exact ⟨⟨hrun, hstore hrun⟩, hattn.1 hlevel⟩
  · intro h
    refine ⟨fun hheld => ?_, hattn.2 h.attn, fun _ => h.stored⟩
    rw [hrun] at hheld
    cases hheld

/-- Of a part without supply or under RESET, the invariant says that it is held, and drives ATTN under RESET. -/
theorem State.powerRight_iff_of_not_running {s : State} (hrun : s.running = false) :
    s.PowerRight ↔ s.atPowerUp s.pins s.rq.unpowered = s ∧ (s.pins.supply = true → s.pins.attn = true) := by
  have hattn : s.AttnRight ↔ (s.pins.supply = true → s.pins.attn = true) := by
    refine forall_congr' fun hsupply => ⟨fun hlevel => hlevel.2 (.inl ?_), fun hdriven => iff_of_true hdriven (.inl ?_)⟩ <;>
      simpa [State.running, hsupply] using hrun
  constructor
  · rintro ⟨hheld, hlevel, _⟩
    exact ⟨hheld hrun, hattn.1 hlevel⟩
  · rintro ⟨hheld, hlevel⟩
    refine ⟨fun _ => hheld, hattn.2 hlevel, fun hrun' => ?_⟩
    rw [hrun] at hrun'
    cases hrun'

/-! ## Writes of the retained store -/

theorem RecordQueue.stored_save (q : RecordQueue) : q.save.Stored := rfl

theorem RecordQueue.stored_append (q : RecordQueue) (i : StationId) (x : CallContext) : (q.append i x).Stored :=
  RecordQueue.stored_save _

theorem RecordQueue.stored_release (q : RecordQueue) (n : Nat) : (q.release n).Stored := RecordQueue.stored_save _

/-- R142: a usable store is its records and next number. -/
theorem RetainedStore.eq_of_usable {r : RetainedStore} (hheld : r.vbakHeld = true) (hcheck : r.checkAgrees = true) :
    r = { records := r.records, nextNumber := r.nextNumber, checkAgrees := true, vbakHeld := true } := by
  cases r
  cases hheld
  cases hcheck
  rfl

/-- R142: after a break of VBAK the queue is emptied. -/
theorem RecordQueue.judged_of_broken {q : RecordQueue} (hbroken : q.store.vbakHeld = false) : q.judged = .reset := by
  simp only [RecordQueue.judged, hbroken, Bool.false_and, Bool.false_eq_true, if_false]

/-- R142: a power-up leaves the store current, usable or emptied (log 12). -/
theorem RecordQueue.stored_judged (q : RecordQueue) : q.judged.Stored := by
  unfold RecordQueue.judged
  split
  next husable =>
    obtain ⟨hheld, hcheck⟩ := Bool.and_eq_true_iff.1 husable
    exact RetainedStore.eq_of_usable hheld hcheck
  next => rfl

/-- R141, R142: what a current store holds outlives a loss of the supply, but for the reservations. -/
theorem RecordQueue.Stored.judged_unpowered {q : RecordQueue} (h : q.Stored) :
    q.unpowered.judged = { q with reservations := 0, retained := true } := by
  obtain ⟨records, nextNumber, reservations, retained, store⟩ := q
  have hstore : store = { records := records, nextNumber := nextNumber, checkAgrees := true, vbakHeld := true } := h
  subst hstore
  rfl

/-! ## The level of ATTN -/

/-- R144: number of records, link state, trusted and the stations that hold ATTN decide its level. -/
theorem State.attnHolds_congr {s t : State} (hcount : t.rq.records.length = s.rq.records.length)
    (hlink : t.xlc.link = s.xlc.link) (htrusted : t.tb.trusted = s.tb.trusted)
    (hstations : ∀ i, (t.station i).holdsAttn = (s.station i).holdsAttn) : t.attnHolds = s.attnHolds := by
  have hany : t.cc.values.any StationRecord.holdsAttn = s.cc.values.any StationRecord.holdsAttn := by
    rw [PerStation.values_eq, PerStation.values_eq, List.any_map, List.any_map]
    exact congrArg (List.any stationIds) (funext hstations)
  rw [State.attnHolds, State.attnHolds, hcount, hlink, htrusted, hany]

theorem StationRecord.holdsAttn_of_inService {r : StationRecord} (h : r.state ≠ .outOfService) : r.holdsAttn = false := by
  simp [StationRecord.holdsAttn, h]

/-- A station in service that stays in service holds ATTN neither before nor after. -/
theorem StationRecord.holdsAttn_stays {r q : StationRecord} (hr : r.state ≠ .outOfService) (hq : q.state ≠ .outOfService) :
    q.holdsAttn = r.holdsAttn := by
  rw [q.holdsAttn_of_inService hq, r.holdsAttn_of_inService hr]

/-! ## What keeps the store current -/

section
variable {s t : State}

theorem State.RunsStored.of_frame (h : s.RunsStored) (hpins : t.pins = s.pins) (hrq : t.rq = s.rq) : t.RunsStored :=
  ⟨by rw [State.running, hpins]; exact h.running, hrq ▸ h.stored⟩

/-- A change of the RQ that leaves its store current. -/
theorem State.RunsStored.rq (h : s.RunsStored) {q : RecordQueue} (hq : q.Stored) : { s with rq := q }.RunsStored :=
  ⟨h.running, hq⟩

/-- R144: the evaluation puts ATTN at its level. -/
theorem State.RunsStored.refreshAttn (h : s.RunsStored) : s.refreshAttn.RunsRight := ⟨⟨h.running, h.stored⟩, rfl⟩

end

section
variable {s : State} (h : s.RunsStored)
include h

theorem State.RunsStored.mapStation (i : StationId) (f : StationRecord → StationRecord) : (s.mapStation i f).RunsStored :=
  h.of_frame rfl rfl

theorem State.RunsStored.mapContext (i : StationId) (f : CallContext → CallContext) : (s.mapContext i f).RunsStored :=
  h.of_frame rfl rfl

theorem State.RunsStored.setOrder (i : StationId) (o : Option BurnOrder) : (s.setOrder i o).RunsStored := h.of_frame rfl rfl

theorem State.RunsStored.offerRow (f : RowOutFrame) : (s.offerRow f).RunsStored := h.of_frame rfl rfl

theorem State.RunsStored.tellStation (i : StationId) (m : RowMsg) : (s.tellStation i m).RunsStored := h.offerRow _

theorem State.RunsStored.offerLink (m : LinkMsg) : (s.offerLink m).RunsStored := h.of_frame rfl rfl

theorem State.RunsStored.forgetTag (i : StationId) (tag : Nat) : (s.forgetTag i tag).RunsStored := h.of_frame rfl rfl

theorem State.RunsStored.de (d : DebitEngine) : { s with de := d }.RunsStored := h.of_frame rfl rfl

theorem State.RunsStored.rlc (r : RowLine) : { s with rlc := r }.RunsStored := h.of_frame rfl rfl

theorem State.RunsStored.xlc (x : ExchangeLink) : { s with xlc := x }.RunsStored := h.of_frame rfl rfl

theorem State.RunsStored.tb (b : TimeBase) : { s with tb := b }.RunsStored := h.of_frame rfl rfl

/-- R137, R141: storing a record writes the store. -/
theorem State.RunsStored.storeRecord (i : StationId) (x : CallContext) : (s.storeRecord i x).RunsStored :=
  h.rq (s.rq.stored_append i x)

/-- What every turn keeps, all in turn do. -/
theorem State.RunsStored.foldl {f : State → StationId → State}
    (hf : ∀ {u : State}, u.RunsStored → ∀ i, (f u i).RunsStored) (l : List StationId) : (l.foldl f s).RunsStored :=
  List.foldlRecOn l f h fun _ hu i _ => hf hu i

end

/-! ### Clearing and service -/

section
variable {s : State} (h : s.RunsStored) (i : StationId)
include h

theorem State.RunsStored.removeCard : (s.removeCard i).RunsStored := by
  unfold State.removeCard
  split
  next => exact h.of_frame rfl rfl
  next => exact h

/-- R21: the record is stored; pins, card and station record follow. -/
theorem State.RunsStored.complete (x : CallContext) : (s.complete i x).RunsStored := by
  have hunpinned : ((s.storeRecord i x).unpinBank x.bank).RunsStored := (h.storeRecord i x).of_frame rfl rfl
  unfold State.complete
  dsimp only
  split
  next => exact (hunpinned.removeCard i).mapStation i _
  next => exact hunpinned.mapStation i _

theorem State.RunsStored.completeIfDone : (s.completeIfDone i).RunsStored := by
  obtain heq | ⟨x, _, _, _, _, heq⟩ := s.completeIfDone_cases i <;> rw [heq]
  · exact h
  · exact h.complete i x

theorem State.RunsStored.startClear (c : EndCause) : (s.startClear i c).RunsStored :=
  (((h.mapStation i _).offerLink _).tellStation i _).completeIfDone i

theorem State.RunsStored.clearLinkDown : (s.clearLinkDown i).RunsStored :=
  ((h.mapStation i _).tellStation i _).completeIfDone i

theorem State.RunsStored.exchangeClear (x : Byte) : (s.exchangeClear i x).RunsStored :=
  (((h.mapStation i _).offerLink _).tellStation i _).completeIfDone i

theorem State.RunsStored.releaseCall : (s.releaseCall i).RunsStored := by
  unfold State.releaseCall
  split
  next =>
    split
    next => exact h
    next => exact (h.mapStation i _).completeIfDone i
  next => exact h

theorem State.RunsStored.linkDownStation : (s.linkDownStation i).RunsStored := by
  unfold State.linkDownStation
  split
  next => exact h.clearLinkDown i
  next => exact h.clearLinkDown i
  next => exact h.releaseCall i
  all_goals exact h

theorem State.RunsStored.takeOut (r : OutReason) : (s.takeOut i r).RunsStored := by
  unfold State.takeOut
  split
  next => exact (h.mapStation i _).tellStation i _
  next => exact ((h.removeCard i).mapStation i _).tellStation i _
  next => exact ((h.mapStation i _).startClear i _).tellStation i _
  next => exact ((h.mapStation i _).startClear i _).tellStation i _
  next => exact (h.mapStation i _).tellStation i _
  next => exact h

theorem State.RunsStored.putInService : (s.putInService i).RunsStored := by
  unfold State.putInService
  split
  next => exact ((h.mapStation i _).de _).tellStation i _
  next => exact h

theorem State.RunsStored.setMode (k : Nat) (m : Mode) : (s.setMode i k m).RunsStored := by
  have hcls := h.mapStation i fun r => { r with cls := k }
  cases m with
  | into => exact hcls.putInService i
  | out => exact hcls.takeOut i .takenOut

end

/-! ### Orders and their outcomes -/

section
variable {s : State} (h : s.RunsStored) (i : StationId)
include h

theorem State.RunsStored.markFinal (c : FinalCause) : (s.markFinal i c).RunsStored := (h.mapContext i _).tellStation i _

theorem State.RunsStored.cutBack (l : List Interval) (c : FinalCause) : (s.cutBack i l c).RunsStored := by
  have hcut := h.mapStation i fun r => { r with intervals := l }
  unfold State.cutBack
  dsimp only
  split
  next => exact hcut.startClear i _
  next => exact hcut.markFinal i c

theorem State.RunsStored.outcomeInTalk (o : BurnOrder) (out : OrderOutcome) (x : CallContext) :
    (s.outcomeInTalk i o out x).RunsStored := by
  cases out with
  | full now => exact h.mapStation i fun r => { r with intervals := payAll r.intervals }
  | short b now => exact h.cutBack i _ _
  | undelivered => exact h.cutBack i _ _
  | timedOut => exact h.cutBack i _ _

theorem State.RunsStored.outcomeToCall (o : BurnOrder) (out : OrderOutcome) : (s.outcomeToCall i o out).RunsStored := by
  have htotals := h.mapContext i (o.totals out)
  unfold State.outcomeToCall
  dsimp only
  split
  next => exact htotals.outcomeInTalk i o out _
  next => exact (htotals.mapContext i _).completeIfDone i
  next => exact htotals

theorem State.RunsStored.outcomeSteps (o : BurnOrder) (out : OrderOutcome) : (s.outcomeSteps i o out).RunsStored := by
  have hnoted : (s.outcomeNoted i o out).RunsStored := by
    unfold State.outcomeNoted State.cardUpdate
    split <;> exact h.of_frame rfl rfl
  rw [State.outcomeSteps_eq]
  split
  next => exact (hnoted.outcomeToCall i o out).takeOut i _
  next => exact hnoted.outcomeToCall i o out

theorem State.RunsStored.issueOrder (x : Serial) (units : Nat) (p : Purpose) : (s.issueOrder i x units p).RunsStored := by
  unfold State.issueOrder
  dsimp only
  split
  next => exact (h.de _).offerRow _
  next => exact (h.de _).outcomeSteps i _ _

theorem State.RunsStored.replenish (x : BankId) (b : Band) (card : Serial) : (s.replenish i x b card).RunsStored := by
  unfold State.replenish
  dsimp only
  split
  next => exact h.markFinal i _
  next => exact (h.mapStation i _).issueOrder i _ _ _

theorem State.RunsStored.considerReplenish : (s.considerReplenish i).RunsStored := by
  unfold State.considerReplenish
  split
  next =>
    split
    next =>
      split
      next => exact h.replenish i _ _ _
      next => exact h
    next => exact h
  next => exact h

theorem State.RunsStored.takeOutcome (o : BurnOrder) (out : OrderOutcome) : (s.takeOutcome i o out).RunsStored := by
  cases out with
  | full now => exact (h.outcomeSteps i o _).considerReplenish i
  | short b now => exact h.outcomeSteps i o _
  | undelivered => exact h.outcomeSteps i o _
  | timedOut => exact h.outcomeSteps i o _

theorem State.RunsStored.answerCharged (x : BankId) (b : Band) : (s.answerCharged i x b).RunsStored := by
  unfold State.answerCharged
  dsimp only
  split
  next =>
    split
    next => exact (h.mapStation i _).startClear i _
    next => exact (((h.mapStation i _).mapStation i _).tellStation i _).issueOrder i _ _ _
  next => exact (h.mapStation i _).startClear i _

theorem State.RunsStored.answerCall : (s.answerCall i).RunsStored := by
  unfold State.answerCall
  split
  next =>
    split
    next => exact (h.mapStation i _).tellStation i _
    next => exact h.answerCharged i _ _
  next => exact h.offerLink _

theorem State.RunsStored.headExpired (x : CallContext) : (s.headExpired i x).RunsStored := by
  unfold State.headExpired
  split
  next => exact h.startClear i _
  next =>
    split
    next => exact (h.mapStation i _).considerReplenish i
    next => exact h.startClear i _

theorem State.RunsStored.takeReport (tag burned now : Nat) : (s.takeReport i tag burned now).RunsStored := by
  unfold State.takeReport
  split
  next o _ =>
    split
    next =>
      have hretired : (s.retireTag i o).RunsStored := by
        unfold State.retireTag
        split
        next => exact h.de _
        next => exact h
      exact hretired.takeOutcome i o _
    next => exact h
  next => exact h

end

/-! ### The row line and the exchange link -/

section
variable {s : State} (h : s.RunsStored)
include h

theorem State.RunsStored.headDelivered (f : RowOutFrame) : (s.headDelivered f).RunsStored := by
  unfold State.headDelivered State.burnDelivered
  dsimp only
  split
  next =>
    split
    next => exact (h.rlc _).setOrder _ _
    next => exact (h.rlc _).forgetTag _ _
  next => exact h.rlc _

theorem State.RunsStored.headUndelivered (f : RowOutFrame) : (s.headUndelivered f).RunsStored := by
  unfold State.headUndelivered State.burnUndelivered
  dsimp only
  split
  next =>
    split
    next => exact (h.rlc _).takeOutcome _ _ _
    next => exact (h.rlc _).forgetTag _ _
  next => exact h.rlc _

theorem State.RunsStored.transmissionFailed (f : RowOutFrame) : (s.transmissionFailed f).RunsStored := by
  unfold State.transmissionFailed
  split
  next => exact h.rlc _
  next => exact h.headUndelivered f

theorem State.RunsStored.exchangeClears (i : StationId) (x : Byte) : (s.exchangeClears i x).RunsStored := by
  unfold State.exchangeClears
  split
  next => exact h.exchangeClear i x
  next => exact h.exchangeClear i x
  next => exact h.releaseCall i
  all_goals exact h.offerLink _

theorem State.RunsStored.exchangeReleases (i : StationId) : (s.exchangeReleases i).RunsStored := by
  unfold State.exchangeReleases
  split
  next => exact h.releaseCall i
  next => exact h

/-- R28: the record of each call is stored. -/
theorem State.RunsStored.restartStation (i : StationId) : (s.restartStation i).RunsStored := by
  have hstored : (s.storeRestart i).RunsStored := by
    unfold State.storeRestart
    split
    next => exact (h.storeRecord i _).of_frame rfl rfl
    next => exact h
  exact hstored.mapStation i _

theorem State.RunsStored.restartLine : s.restartLine.RunsStored := by
  have hstations := h.foldl (fun hu i => hu.restartStation i) stationIds
  unfold State.restartLine
  generalize stationIds.foldl State.restartStation s = u at hstations
  exact hstations.of_frame rfl rfl

end

end Sys2Proof.Machine

/-! # The call record queue (07): what keeps ATTN at its level without an evaluation -/

namespace Sys2Proof.Machine

section
variable {s t : State}

/-- No record is stored or removed, and link state, trusted and the stations that hold ATTN stay. -/
theorem State.RunsRight.of_stations (h : s.RunsRight) (hpins : t.pins = s.pins) (hrq : t.rq = s.rq)
    (hlink : t.xlc.link = s.xlc.link) (htrusted : t.tb.trusted = s.tb.trusted)
    (hstations : ∀ i, (t.station i).holdsAttn = (s.station i).holdsAttn) : t.RunsRight := by
  refine ⟨h.toRunsStored.of_frame hpins hrq, ?_⟩
  rw [hpins, h.attn]
  exact (State.attnHolds_congr (by rw [hrq]) hlink htrusted hstations).symm

/-- Besides, the stations stay. -/
theorem State.RunsRight.of_frame (h : s.RunsRight) (hpins : t.pins = s.pins) (hrq : t.rq = s.rq)
    (hlink : t.xlc.link = s.xlc.link) (htrusted : t.tb.trusted = s.tb.trusted) (hcc : t.cc = s.cc) : t.RunsRight :=
  h.of_stations hpins hrq hlink htrusted fun i => by rw [State.station, State.station, hcc]

end

/-! ## Updates of the state -/

section
variable {s : State} (h : s.RunsRight)
include h

theorem State.RunsRight.withCards (cs : List CardRecord) : (s.withCards cs).RunsRight := h.of_frame rfl rfl rfl rfl rfl

theorem State.RunsRight.cards (c : CardTable) : { s with ct := c }.RunsRight := h.of_frame rfl rfl rfl rfl rfl

theorem State.RunsRight.de (d : DebitEngine) : { s with de := d }.RunsRight := h.of_frame rfl rfl rfl rfl rfl

theorem State.RunsRight.mu (m : Management) : { s with mu := m }.RunsRight := h.of_frame rfl rfl rfl rfl rfl

theorem State.RunsRight.rlc (r : RowLine) : { s with rlc := r }.RunsRight := h.of_frame rfl rfl rfl rfl rfl

theorem State.RunsRight.xlc (x : ExchangeLink) (hlink : x.link = s.xlc.link) : { s with xlc := x }.RunsRight :=
  h.of_frame rfl rfl hlink rfl rfl

theorem State.RunsRight.setBank (x : BankId) (b : Bank) : (s.setBank x b).RunsRight := h.of_frame rfl rfl rfl rfl rfl

theorem State.RunsRight.advancePointer : s.advancePointer.RunsRight := h.mu _

theorem State.RunsRight.offerRow (f : RowOutFrame) : (s.offerRow f).RunsRight := h.rlc _

theorem State.RunsRight.tellStation (i : StationId) (m : RowMsg) : (s.tellStation i m).RunsRight := h.offerRow _

theorem State.RunsRight.tellCard (i : StationId) (m : RowMsg) : (s.tellCard i m).RunsRight := h.offerRow _

theorem State.RunsRight.offerLink (m : LinkMsg) : (s.offerLink m).RunsRight := h.xlc _ (s.xlc.offer_link m)

/-- R136: a reservation stores no record. -/
theorem State.RunsRight.reserve : { s with rq := s.rq.reserve }.RunsRight := ⟨h.toRunsStored.rq h.stored, h.attn⟩

variable (i : StationId)

/-- A station record changes that holds ATTN as before. -/
theorem State.RunsRight.mapStation (f : StationRecord → StationRecord)
    (hf : (f (s.station i)).holdsAttn = (s.station i).holdsAttn) : (s.mapStation i f).RunsRight := by
  refine h.of_stations rfl rfl rfl rfl fun j => ?_
  rw [State.mapStation, State.setStation_station]
  split
  next hji => rw [hf, hji]
  next => rfl

/-! ## Cards leaving their stations, and the clear that the part starts -/

theorem State.RunsRight.removeCard : (s.removeCard i).RunsRight := by
  unfold State.removeCard
  split
  next => exact (h.withCards _).mapStation i _ rfl
  next => exact h

/-- R15: a clear that the part starts does not complete, and so stores no record. -/
theorem State.RunsRight.startClear (c : EndCause) (hstate : (s.station i).state ≠ .outOfService) :
    (s.startClear i c).RunsRight := by
  rw [State.startClear_eq]
  exact ((h.mapStation i (StationRecord.cleared s.elapsed c false (s.orderFree i))
    (StationRecord.holdsAttn_stays hstate nofun)).offerLink _).tellStation i _

/-- R24. -/
theorem State.RunsRight.lostToBar : (s.lostToBar i).RunsRight := by
  unfold State.lostToBar
  split
  next hs => exact h.mapStation i (fun r => { r with state := .idle }) (StationRecord.holdsAttn_stays (by simp [hs]) nofun)
  next hs => exact h.startClear i _ (by simp [hs])
  next hs => exact h.startClear i _ (by simp [hs])
  all_goals exact h

/-- R73. -/
theorem State.RunsRight.barCard (x : Serial) (c : Byte) : (s.barCard i x c).RunsRight :=
  (((h.withCards _).tellCard i _).mapStation i (fun r => { r with card := none }) rfl).lostToBar i

/-- R74. -/
theorem State.RunsRight.barRange (r : HotRange) : (s.barRange r).RunsRight := by
  refine List.foldlRecOn stationIds (State.barIfCovered r) h fun u hu i _ => ?_
  obtain ⟨_, _, _, _, heq⟩ | ⟨heq, _⟩ := u.barIfCovered_cases r i <;> rw [heq]
  · exact hu.barCard i _ _
  · exact hu

/-- R75, R76. -/
theorem State.RunsRight.countStrike (x : Serial) : (s.countStrike x).RunsRight := by
  have hstruck := h.withCards (changeCard x CardRecord.strike s.ct.cards)
  unfold State.countStrike
  dsimp only
  split
  next =>
    split
    next =>
      split
      next => exact (hstruck.cards _).barCard _ x 0
      next => exact hstruck.cards _
    next => exact hstruck
  next => exact hstruck

/-- R71: a card is admitted at a station in IDLE. -/
theorem State.RunsRight.judgeCard (x : Serial) (batch units : Nat) : (s.judgeCard i x batch units).RunsRight := by
  unfold State.judgeCard
  split
  next hcheck =>
    obtain ⟨hidle, _⟩ := (s.cardCheck_eq_none_iff i x batch units).1 hcheck
    have hstays : ({ s.station i with card := some x, state := .ready } : StationRecord).holdsAttn = (s.station i).holdsAttn :=
      StationRecord.holdsAttn_stays (by simp [hidle]) nofun
    exact (((h.withCards _).de _).mapStation i _ hstays).tellCard i _
  next =>
    refine State.RunsRight.tellCard ?_ i _
    split
    next => exact h.countStrike x
    next => exact h

/-- R7. -/
theorem State.RunsRight.cardOut : (s.cardOut i).RunsRight := by
  have hstate : (s.station i).state ≠ .outOfService → ((s.removeCard i).station i).state ≠ .outOfService := by
    unfold State.removeCard
    split <;> simp
  unfold State.cardOut
  split
  next hs _ =>
    exact (h.removeCard i).mapStation i _ (StationRecord.holdsAttn_stays (hstate (by simp [hs])) nofun)
  next hs _ => exact (h.removeCard i).startClear i _ (hstate (by simp [hs]))
  next hs _ => exact (h.removeCard i).startClear i _ (hstate (by simp [hs]))
  next => exact h.removeCard i
  next => exact h

/-- R11: a call is admitted at a station in IDLE or READY. -/
theorem State.RunsRight.judgeNumber (digits : List Digit) : (s.judgeNumber i digits).RunsRight := by
  unfold State.judgeNumber
  split
  next x k hcheck =>
    have hservice : (s.station i).state ≠ .outOfService := by
      obtain hs | hs := State.callCheck_state i hcheck <;> simp [hs]
    have hpinned : (s.pinBank x).RunsRight := h.setBank x _
    have hcontext := hpinned.reserve.mapStation i (fun r => { r with context := some (s.newContext i digits x k) }) rfl
    refine (hcontext.offerLink (.callOpen i digits)).mapStation i
      (fun r => { r with answerTimer := some answerTime, state := .setup }) (StationRecord.holdsAttn_stays ?_ nofun)
    rw [State.offerLink_station, State.mapStation_same]
    exact hservice
  next => exact h.tellStation i _

end

/-! ## Management requests -/

section
variable {s : State} (h : s.RunsRight)
include h

theorem State.RunsRight.writeHot (k : Nat) (e : EntryRead HotRange) : (s.writeHot k e).2.RunsRight := by
  unfold State.writeHot
  dsimp only
  split
  next => exact h
  next => exact h.cards _
  next r =>
    split
    next => exact h
    next =>
      dsimp only
      exact State.RunsRight.barRange (h.cards _) r

theorem State.RunsRight.writeBatch (k : Nat) (e : EntryRead BatchEntry) : (s.writeBatch k e).2.RunsRight := by
  unfold State.writeBatch
  dsimp only
  split
  next => exact h
  next => exact h.cards _
  next =>
    split
    next => exact h
    next => exact h.cards _

theorem State.RunsRight.writeBank {α : Type} (x : BankId) (e : EntryRead α) (repeats : Bank → α → Bool)
    (store : Option α → Bank → Bank) : (s.writeBank x e repeats store).2.RunsRight := by
  unfold State.writeBank
  dsimp only
  split
  next => exact h
  next =>
    split
    next => exact h
    next => exact h.setBank x _
    next =>
      split
      next => exact h
      next => exact h.setBank x _

theorem State.RunsRight.writeEntry (bytes : List Byte) : (s.writeEntry bytes).2.RunsRight := by
  unfold State.writeEntry
  dsimp only
  split
  next => exact h.writeHot _ _
  next => exact h.writeBatch _ _
  next => exact h.writeBank _ _ _ _
  next => exact h.writeBank _ _ _ _
  next => exact h.writeBank _ _ _ _
  next => exact h

theorem State.RunsRight.writeAll (es : List (List Byte)) (n : Nat) : (s.writeAll es n).state.RunsRight := by
  induction es generalizing s n with
  | nil => exact h
  | cons e es ih =>
    have hone := h.writeEntry e
    unfold State.writeAll
    split
    next u heq => rw [heq] at hone; exact ih hone.advancePointer (n + 1)
    next st u _ heq => rw [heq] at hone; exact hone

theorem State.RunsRight.readAll (n : Nat) : (s.readAll n).2.RunsRight := by
  induction n generalizing s with
  | zero => exact h
  | succ n ih => exact ih h.advancePointer

theorem State.RunsRight.activate (x : BankId) : (s.activate x).2.RunsRight := by
  unfold State.activate
  split
  next => exact h
  next => exact h
  next => exact h
  next =>
    split
    next => exact (h.setBank x _).setBank x.other _
    next => exact h

variable (data : List Byte)

theorem State.RunsRight.selectPage : (Machine.selectPage data s).state.RunsRight := by
  unfold Machine.selectPage
  split
  next =>
    split
    next => exact h.mu _
    next => exact h
  next => exact h

theorem State.RunsRight.writeEntries : (Machine.writeEntries data s).state.RunsRight := by
  unfold Machine.writeEntries
  split
  next => exact h
  next =>
    split_ifs
    · exact h
    · exact h.writeAll _ 0
    · exact h

theorem State.RunsRight.readEntries : (Machine.readEntries data s).state.RunsRight := by
  unfold Machine.readEntries
  split
  next =>
    split
    next => exact h.readAll _
    next => exact h
  next => exact h

theorem State.RunsRight.activateBank : (Machine.activateBank data s).state.RunsRight := by
  unfold Machine.activateBank
  split
  next =>
    split
    next => exact h.activate _
    next => exact h
  next => exact h

theorem State.RunsRight.setService : (Machine.setService data s).state.RunsRight := by
  unfold Machine.setService
  split
  next =>
    split
    next => exact h
    next v _ =>
      split_ifs
      · exact h
      · exact h
      · exact (h.mu { s.mu with service := v }).offerRow ⟨.broadcast, .service v, .mu⟩
  next => exact h

theorem State.RunsRight.setStation : (Machine.setStation data s).state.RunsRight := by
  unfold Machine.setStation
  split
  next =>
    split
    next =>
      split
      next => exact (h.toRunsStored.setMode _ _ _).refreshAttn
      next => exact h
    next => exact h
  next => exact h

theorem State.RunsRight.readStation : (Machine.readStation data s).state.RunsRight := by
  unfold Machine.readStation
  split
  next => split <;> exact h
  next => exact h

theorem State.RunsRight.readStatus : (Machine.readStatus data s).state.RunsRight := by
  unfold Machine.readStatus
  split <;> exact h

theorem State.RunsRight.fetchRecord : (Machine.fetchRecord data s).state.RunsRight := by
  unfold Machine.fetchRecord
  split
  next =>
    split
    next => exact h
    next => split <;> exact h
  next => exact h

theorem State.RunsRight.releaseRecords : (Machine.releaseRecords data s).state.RunsRight := by
  unfold Machine.releaseRecords
  split
  next => exact (h.toRunsStored.rq (s.rq.stored_release _)).refreshAttn
  next => exact h

theorem State.RunsRight.removeAutobar : (Machine.removeAutobar data s).state.RunsRight := by
  unfold Machine.removeAutobar
  split
  next =>
    split
    next => exact h.cards _
    next => exact h
  next => exact h

theorem State.RunsRight.restartLine : (Machine.restartLine data s).state.RunsRight := by
  unfold Machine.restartLine
  split
  next => exact h.toRunsStored.restartLine.refreshAttn
  next => exact h

end

/-! ## Taking from the inbound queues -/

section
variable {s : State} (h : s.RunsRight)
include h

theorem State.RunsRight.takeRow {f : RowInFrame} {u : State} (htake : s.takeRow = some (f, u)) : u.RunsRight := by
  obtain ⟨rest, _, rfl⟩ := State.takeRow_eq_some htake
  exact h.rlc _

theorem State.RunsRight.takeLink {m : LinkInMsg} {u : State} (htake : s.takeLink = some (m, u)) : u.RunsRight := by
  obtain ⟨rest, _, rfl⟩ := State.takeLink_eq_some htake
  exact h.xlc _ rfl

/-- R177: the reply is offered after ATTN has been evaluated, and moves no condition of it. -/
theorem State.RunsRight.runRequest (name : Byte) {handle : List Byte → State → Answer}
    (hhandle : ∀ {u : State}, u.RunsRight → ∀ data, (handle data u).state.RunsRight) :
    (s.runRequest name handle).RunsRight := by
  unfold State.runRequest
  split
  next htake =>
    split
    next => exact (hhandle (h.takeLink htake) _).offerLink _
    next => exact h
  next => exact h

theorem State.RunsRight.runUnknown : s.runUnknown.RunsRight := by
  unfold State.runUnknown
  split
  next htake =>
    split
    next => exact h
    next => exact (h.takeLink htake).offerLink _
  next => exact h

theorem State.RunsRight.takeCallAnswered : s.takeCallAnswered.RunsRight := by
  unfold State.takeCallAnswered
  split
  next htake => exact ((h.takeLink htake).toRunsStored.answerCall _).refreshAttn
  next => exact h

theorem State.RunsRight.takeCallClear : s.takeCallClear.RunsRight := by
  unfold State.takeCallClear
  split
  next htake => exact ((h.takeLink htake).toRunsStored.exchangeClears _ _).refreshAttn
  next => exact h

theorem State.RunsRight.takeCallReleased : s.takeCallReleased.RunsRight := by
  unfold State.takeCallReleased
  split
  next htake => exact ((h.takeLink htake).toRunsStored.exchangeReleases _).refreshAttn
  next => exact h

theorem State.RunsRight.takeClock : s.takeClock.RunsRight := by
  unfold State.takeClock
  split
  next htake => exact ((h.takeLink htake).toRunsStored.tb _).refreshAttn
  next => exact h

theorem State.RunsRight.takeCardIn : s.takeCardIn.RunsRight := by
  unfold State.takeCardIn
  split
  next htake => exact (h.takeRow htake).judgeCard _ _ _ _
  next => exact h

theorem State.RunsRight.takeCardOut : s.takeCardOut.RunsRight := by
  unfold State.takeCardOut
  split
  next htake => exact (h.takeRow htake).cardOut _
  next => exact h

theorem State.RunsRight.takeNumber : s.takeNumber.RunsRight := by
  unfold State.takeNumber
  split
  next htake => exact (h.takeRow htake).judgeNumber _ _
  next => exact h

theorem State.RunsRight.takeHookOn : s.takeHookOn.RunsRight := by
  unfold State.takeHookOn
  split
  next i u htake =>
    split
    next hcall =>
      have hstate : (u.station i).state ≠ .outOfService := fun hs => by simp [StationRecord.inCall, hs] at hcall
      exact (h.takeRow htake).startClear _ _ hstate
    next => exact h.takeRow htake
  next => exact h

theorem State.RunsRight.takeBurnReport : s.takeBurnReport.RunsRight := by
  unfold State.takeBurnReport
  split
  next htake => exact ((h.takeRow htake).toRunsStored.takeReport _ _ _ _).refreshAttn
  next => exact h

/-! ## The row line -/

theorem State.RunsRight.lineFree : s.lineFree.RunsRight := by
  unfold State.lineFree
  split
  next => exact h.rlc _
  next => exact h

theorem State.RunsRight.retryDue : s.retryDue.RunsRight := by
  unfold State.retryDue
  split
  next => exact h.rlc _
  next => exact h

theorem State.RunsRight.spoiled : s.spoiled.RunsRight := by
  unfold State.spoiled
  split
  next => exact (h.toRunsStored.transmissionFailed _).refreshAttn
  next => exact h

theorem State.RunsRight.slotEnds (heard : Option Byte) : (s.slotEnds heard).RunsRight := by
  unfold State.slotEnds
  split
  next => exact h
  next =>
    split
    next => exact h
    next =>
      split
      next => exact (h.toRunsStored.headDelivered _).refreshAttn
      next => exact (h.toRunsStored.headUndelivered _).refreshAttn
      next => exact (h.toRunsStored.transmissionFailed _).refreshAttn
      next => exact (h.toRunsStored.transmissionFailed _).refreshAttn

/-- R158: a broadcast is no BURN frame, and its report has no further effect. -/
theorem State.RunsRight.broadcastEnds : s.broadcastEnds.RunsRight := by
  unfold State.broadcastEnds
  split
  next => exact h
  next =>
    split
    next hdest =>
      rw [State.headDelivered_of_other _ ((RowOutFrame.burnPair_eq_none_iff _).2 (by simp [hdest]))]
      exact h.rlc _
    next => exact h

/-! ## Timers -/

theorem State.RunsRight.answerExpires (i : StationId) : (s.answerExpires i).RunsRight := by
  unfold State.answerExpires
  split
  next hsetup => exact h.startClear i _ (by simp [hsetup.1])
  next => exact h

theorem State.RunsRight.releaseExpires (i : StationId) : (s.releaseExpires i).RunsRight := by
  unfold State.releaseExpires
  split
  next => exact (h.toRunsStored.releaseCall i).refreshAttn
  next => exact h

theorem State.RunsRight.headExpires (i : StationId) : (s.headExpires i).RunsRight := by
  unfold State.headExpires
  split
  next => exact (h.toRunsStored.headExpired i _).refreshAttn
  next => exact h

theorem State.RunsRight.replyExpires (i : StationId) : (s.replyExpires i).RunsRight := by
  unfold State.replyExpires
  split
  next =>
    split
    next => exact (h.toRunsStored.takeOutcome i _ _).refreshAttn
    next => exact h
  next => exact h

theorem State.RunsRight.rememberExpires (x : Serial) : (s.rememberExpires x).RunsRight := by
  unfold State.rememberExpires
  split
  next =>
    split
    next => exact h.withCards _
    next => exact h
  next => exact h

theorem State.RunsRight.silenceExpires : s.silenceExpires.RunsRight := by
  unfold State.silenceExpires
  split
  next => exact ((h.toRunsStored.xlc _).foldl (fun hu i => hu.linkDownStation i) stationIds).refreshAttn
  next => exact h

theorem State.RunsRight.untrustExpires : s.untrustExpires.RunsRight := by
  unfold State.untrustExpires
  split
  next => exact (h.toRunsStored.tb _).refreshAttn
  next => exact h

/-- R122: a tick moves timers and the clock, but no condition of ATTN. -/
theorem State.RunsRight.tick : s.tick.RunsRight :=
  h.of_stations rfl rfl rfl rfl fun i => by rw [s.tick_station i]; rfl

end

end Sys2Proof.Machine

/-! # The call record queue (07): power, RESET and every step -/

namespace Sys2Proof.Machine

/-! ## Commands of the running part -/

/-- Every command but the four of power is an event of the running part (log 7). -/
theorem exec_eq_whenRunning {c : Instr} (hc : ofPower c = false) : ∃ f, ∀ s, exec c s = whenRunning f s := by
  cases c
  case powerUp | resetAsserted | powerLoss | vbakLost => cases hc
  all_goals exact ⟨_, fun _ => rfl⟩

/-- R161, R175: such a command leaves a part without supply, or under RESET, as it is. -/
theorem exec_of_not_running {c : Instr} (hc : ofPower c = false) {s : State} (hrun : s.running = false) :
    exec c s = .next s := by
  obtain ⟨f, hf⟩ := exec_eq_whenRunning hc
  rw [hf, whenRunning_of_not_running f s hrun]

/-! ## Power -/

section
variable (s : State)

/-- R145: with supply, RESET_ASSERTED holds the part at its power-up state. -/
theorem State.holdReset_of_supply (hsupply : s.pins.supply = true) :
    s.holdReset = s.atPowerUp { supply := true, reset := true, attn := true } s.rq.unpowered :=
  if_pos hsupply

/-- Log 7: without supply it records the pin. -/
theorem State.holdReset_of_no_supply (hsupply : s.pins.supply = false) :
    s.holdReset = { s with pins := { s.pins with reset := true } } :=
  if_neg (by simp [hsupply])

theorem State.losePower_of_supply (hsupply : s.pins.supply = true) :
    s.losePower = { s.atPowerUp { supply := false, reset := s.pins.reset, attn := Config.attnUnpowered s.free } s.rq.unpowered
      with free := s.free + 1 } :=
  if_pos hsupply

theorem State.losePower_of_no_supply (hsupply : s.pins.supply = false) : s.losePower = s := if_neg (by simp [hsupply])

/-- R142, log 27: under supply a drop of VBAK does not count. -/
theorem State.loseVbak_of_supply (hsupply : s.pins.supply = true) : s.loseVbak = s := if_pos hsupply

theorem State.loseVbak_of_no_supply (hsupply : s.pins.supply = false) :
    s.loseVbak = { s with rq := { s.rq with store := { s.rq.store with vbakHeld := false } } } :=
  if_neg (by simp [hsupply])

theorem State.not_running_of_no_supply (hsupply : s.pins.supply = false) : s.running = false := by
  simp [State.running, hsupply]

/-- R5, R142: after a power-up the part runs right, whatever was before. -/
theorem State.powerUp_runsRight : s.powerUp.RunsRight :=
  State.RunsStored.refreshAttn ⟨rfl, s.rq.stored_judged⟩

end

section
variable {s : State}

theorem State.PowerRight.holdReset (h : s.PowerRight) : s.holdReset.PowerRight := by
  cases hsupply : s.pins.supply with
  | true =>
    rw [s.holdReset_of_supply hsupply]
    exact (State.powerRight_iff_of_not_running rfl).2 ⟨rfl, fun _ => rfl⟩
  | false =>
    have hrun := s.not_running_of_no_supply hsupply
    obtain ⟨hheld, _⟩ := (State.powerRight_iff_of_not_running hrun).1 h
    rw [s.holdReset_of_no_supply hsupply]
    have hrun' : { s with pins := { s.pins with reset := true } }.running = false := State.not_running_of_no_supply _ hsupply
    refine (State.powerRight_iff_of_not_running hrun').2 ⟨?_, fun hon => ?_⟩
    · conv_rhs => rw [← hheld]
      rfl
    · rw [hsupply] at hon
      cases hon

theorem State.PowerRight.losePower (h : s.PowerRight) : s.losePower.PowerRight := by
  cases hsupply : s.pins.supply with
  | true =>
    rw [s.losePower_of_supply hsupply]
    exact (State.powerRight_iff_of_not_running rfl).2 ⟨rfl, nofun⟩
  | false =>
    rw [s.losePower_of_no_supply hsupply]
    exact h

theorem State.PowerRight.loseVbak (h : s.PowerRight) : s.loseVbak.PowerRight := by
  cases hsupply : s.pins.supply with
  | true =>
    rw [s.loseVbak_of_supply hsupply]
    exact h
  | false =>
    have hrun := s.not_running_of_no_supply hsupply
    obtain ⟨hheld, hattn⟩ := (State.powerRight_iff_of_not_running hrun).1 h
    rw [s.loseVbak_of_no_supply hsupply]
    have hrun' : { s with rq := { s.rq with store := { s.rq.store with vbakHeld := false } } }.running = false := hrun
    refine (State.powerRight_iff_of_not_running hrun').2 ⟨?_, hattn⟩
    conv_rhs => rw [← hheld]
    rfl

end

/-! ## Every command -/

section
variable {s t : State}

theorem State.RunsRight.of_whenRunning {f : State → State} (h : s.RunsRight) (hf : s.RunsRight → (f s).RunsRight)
    (hnext : whenRunning f s = .next t) : t.RunsRight := by
  rw [whenRunning_next f s t hnext, if_pos h.running]
  exact hf h

/-- R141, R144: a part that runs right still does after any command but those of power. -/
theorem State.RunsRight.exec {c : Instr} (h : s.RunsRight) (hc : ofPower c = false) (hnext : Machine.exec c s = .next t) :
    t.RunsRight := by
  cases c with
  | powerUp => cases hc
  | resetAsserted => cases hc
  | powerLoss => cases hc
  | vbakLost => cases hc
  | rowFrameReceived bytes => exact h.of_whenRunning (f := State.rowReceived bytes) (fun hs => hs.rlc _) hnext
  | cardIn => exact h.of_whenRunning .takeCardIn hnext
  | cardOut => exact h.of_whenRunning .takeCardOut hnext
  | number => exact h.of_whenRunning .takeNumber hnext
  | hookOn => exact h.of_whenRunning .takeHookOn hnext
  | burnReport => exact h.of_whenRunning .takeBurnReport hnext
  | lineFree => exact h.of_whenRunning .lineFree hnext
  | retry => exact h.of_whenRunning .retryDue hnext
  | spoiledTransmission => exact h.of_whenRunning .spoiled hnext
  | acknowledgeSlot heard => exact h.of_whenRunning (fun hs => hs.slotEnds heard) hnext
  | broadcastSent => exact h.of_whenRunning .broadcastEnds hnext
  | linkFrameReceived bytes =>
    exact h.of_whenRunning (f := State.linkReceived bytes) (fun hs => (hs.toRunsStored.xlc _).refreshAttn) hnext
  | callAnswered => exact h.of_whenRunning .takeCallAnswered hnext
  | callClear => exact h.of_whenRunning .takeCallClear hnext
  | callReleased => exact h.of_whenRunning .takeCallReleased hnext
  | clock => exact h.of_whenRunning .takeClock hnext
  | linkFrameSent =>
    refine h.of_whenRunning (f := State.linkSent) (fun hs => hs.xlc _ ?_) hnext
    unfold ExchangeLink.sent
    split <;> rfl
  | selectPage => exact h.of_whenRunning (fun hs => hs.runRequest _ .selectPage) hnext
  | writeEntries => exact h.of_whenRunning (fun hs => hs.runRequest _ .writeEntries) hnext
  | readEntries => exact h.of_whenRunning (fun hs => hs.runRequest _ .readEntries) hnext
  | activateBank => exact h.of_whenRunning (fun hs => hs.runRequest _ .activateBank) hnext
  | setService => exact h.of_whenRunning (fun hs => hs.runRequest _ .setService) hnext
  | setStation => exact h.of_whenRunning (fun hs => hs.runRequest _ .setStation) hnext
  | readStation => exact h.of_whenRunning (fun hs => hs.runRequest _ .readStation) hnext
  | readStatus => exact h.of_whenRunning (fun hs => hs.runRequest _ .readStatus) hnext
  | fetchRecord => exact h.of_whenRunning (fun hs => hs.runRequest _ .fetchRecord) hnext
  | releaseRecords => exact h.of_whenRunning (fun hs => hs.runRequest _ .releaseRecords) hnext
  | removeAutobar => exact h.of_whenRunning (fun hs => hs.runRequest _ .removeAutobar) hnext
  | restartLine => exact h.of_whenRunning (fun hs => hs.runRequest _ .restartLine) hnext
  | mgmtRequestUnknown => exact h.of_whenRunning .runUnknown hnext
  | answerTimerExpiry i => exact h.of_whenRunning (fun hs => hs.answerExpires i) hnext
  | releaseTimerExpiry i => exact h.of_whenRunning (fun hs => hs.releaseExpires i) hnext
  | headIntervalExpiry i => exact h.of_whenRunning (fun hs => hs.headExpires i) hnext
  | replyTimerExpiry i => exact h.of_whenRunning (fun hs => hs.replyExpires i) hnext
  | rememberTimerExpiry x => exact h.of_whenRunning (fun hs => hs.rememberExpires x) hnext
  | silenceTimerExpiry => exact h.of_whenRunning .silenceExpires hnext
  | untrustTimerExpiry => exact h.of_whenRunning .untrustExpires hnext
  | timeOfDayTick => exact h.of_whenRunning .tick hnext

/-- A power event by its own rule, a held part untouched, a running part by what its command keeps. -/
theorem State.PowerRight.exec {c : Instr} (h : s.PowerRight) (hnext : Machine.exec c s = .next t) : t.PowerRight := by
  cases hc : ofPower c with
  | true =>
    cases c with
    | powerUp => cases hnext; exact (State.powerRight_iff_of_running rfl).2 s.powerUp_runsRight
    | resetAsserted => cases hnext; exact h.holdReset
    | powerLoss => cases hnext; exact h.losePower
    | vbakLost => cases hnext; exact h.loseVbak
    | _ => cases hc
  | false =>
    cases hrun : s.running with
    | true =>
      have hright := ((State.powerRight_iff_of_running hrun).1 h).exec hc hnext
      exact (State.powerRight_iff_of_running hright.running).2 hright
    | false =>
      rw [exec_of_not_running hc hrun] at hnext
      cases hnext
      exact h

/-- The commands that wait are no part of what is held. -/
theorem State.PowerRight.withPending (h : s.PowerRight) (rest : List Instr) : { s with pending := rest }.PowerRight := by
  obtain ⟨hheld, hattn, hstore⟩ := h
  refine ⟨fun hrun => ?_, hattn, hstore⟩
  have hblocks := hheld hrun
  conv_rhs => rw [← hblocks]
  rfl

end

/-- Settles O49: taking the command off the queue leaves the blocks as they are, and every command keeps the invariant. -/
theorem powerRightAlways : Obligations.PowerRightAlways := by
  intro s t h hstep
  unfold step at hstep
  split at hstep
  next => cases hstep; exact h
  next rest _ => exact (h.withPending rest).exec hstep

/-- Settles O3: the two branches of RESET_ASSERTED, and the commands that only a running part takes. -/
theorem resetHoldsThePart : Obligations.ResetHoldsThePart := by
  refine ⟨fun s hsupply => ?_, fun s hsupply => ?_, fun c s hrun hc => exec_of_not_running hc hrun⟩
  · exact congrArg Host.Outcome.next (s.holdReset_of_supply hsupply)
  · exact congrArg Host.Outcome.next (s.holdReset_of_no_supply hsupply)

/-- Settles O5: the store outlives the loss and is judged at power-up, usable unless VBAK was lost in between. -/
theorem recordsAcrossPowerLoss : Obligations.RecordsAcrossPowerLoss := by
  refine ⟨fun s hrun hcurrent => ?loss, fun s hsupply => congrArg Host.Outcome.next (s.loseVbak_of_supply hsupply)⟩
  obtain ⟨hsupply, _⟩ := s.running_iff.1 hrun
  have hlost := s.losePower_of_supply hsupply
  have hoff : s.losePower.pins.supply = false := by rw [hlost]; rfl
  refine ⟨s.losePower, rfl, hoff, ⟨_, rfl, ?kept⟩,
    s.losePower.loseVbak, _, rfl, s.losePower.loseVbak_of_no_supply hoff, rfl, ?lost⟩
  case kept =>
    show s.losePower.rq.judged = _
    rw [hlost]
    exact RecordQueue.Stored.judged_unpowered (hcurrent hrun)
  case lost =>
    have hjudged : s.losePower.loseVbak.powerUp.rq = .reset := by
      show s.losePower.loseVbak.rq.judged = _
      rw [s.losePower.loseVbak_of_no_supply hoff]
      exact RecordQueue.judged_of_broken rfl
    rw [hjudged]
    exact ⟨rfl, rfl, rfl, rfl⟩

end Sys2Proof.Machine

/-! # The call record queue (07): what is read back, and what is released -/

namespace Sys2Proof.Machine

/-! ## Records released, serials unbarred -/

/-- Four bytes of a request spell the number of their 32 bits (R190). -/
theorem readNat_four (a b c d : Byte) : readNat [a, b, c, d] = (a ++ b ++ c ++ d).toNat := by
  simp only [readNat, List.foldl_cons, List.foldl_nil, toNat_append_byte, Nat.zero_mul, Nat.zero_add]

/-- Settles O46: the release writes the store with what it leaves; the auto-bar list holds the serial or not. -/
theorem recordsReleasedAndSerialUnbarred : Obligations.RecordsReleasedAndSerialUnbarred := by
  refine ⟨fun s a b c d => ?released, fun s a b c d => ⟨fun hnot => ?notFound, fun hlisted => ?unbarred⟩⟩
  case released =>
    intro n left
    have hnumber : readNat [a, b, c, d] = n := readNat_four a b c d
    rw [releaseRecords, hnumber]
    rfl
  case notFound => rw [removeAutobar, if_neg (by simpa using hnot)]
  case unbarred =>
    rw [removeAutobar, if_pos (by simpa using hlisted)]
    rfl

/-! ## The requests that read -/

/-- The station byte of station `i` names it (R190). -/
theorem stationOf_code (i : StationId) : stationOf (code (i.val + 1)) = some i := by
  have hi := i.isLt
  have hnode : (code (i.val + 1)).toNat = i.val + 1 := toNat_code (by omega)
  unfold stationOf
  rw [dif_pos (by omega)]
  simp only [hnode, Nat.add_sub_cancel]

theorem stationOf_eq_none {b : Byte} (h : b = 0 ∨ 48 < b) : stationOf b = none := by
  refine dif_neg ?_
  obtain rfl | h := h
  · decide
  · have hlt : 48 < b.toNat := h
    omega

section
variable (s : State)

/-- R185. -/
theorem readStation_of_station {b : Byte} {i : StationId} (h : stationOf b = some i) :
    readStation [b] s = ⟨.done, .station (s.stationView i), s⟩ := by
  simp only [readStation, h]

theorem readStation_of_none {b : Byte} (h : stationOf b = none) : readStation [b] s = ⟨.range, .nothing, s⟩ := by
  simp only [readStation, h, refuse]

/-- R139: above position 3. -/
theorem fetchRecord_of_gt {p : Byte} (h : 3 < p.toNat) : fetchRecord [p] s = ⟨.range, .nothing, s⟩ := by
  rw [fetchRecord, if_pos h, refuse]

/-- R139: no record stands at the position. -/
theorem fetchRecord_of_none {p : Byte} (h : p.toNat ≤ 3) (hnone : s.rq.records[p.toNat]? = none) :
    fetchRecord [p] s = ⟨.empty, .nothing, s⟩ := by
  simp only [fetchRecord, if_neg (Nat.not_lt.2 h), hnone]

/-- R139: a record stands at the position. -/
theorem fetchRecord_of_some {p : Byte} {r : CallRecord} (h : p.toNat ≤ 3) (hsome : s.rq.records[p.toNat]? = some r) :
    fetchRecord [p] s = ⟨.done, .record r, s⟩ := by
  simp only [fetchRecord, if_neg (Nat.not_lt.2 h), hsome]

end

/-! ## Lengths of fields -/

@[simp] theorem lowBytes_length (k v : Nat) : (lowBytes k v).length = k := by
  induction k with
  | zero => rfl
  | succ k ih => rw [lowBytes, List.length_cons, ih]

/-- A field of `k` bytes has `k` bytes, whether the number fits it or not (log 18). -/
@[simp] theorem wireNat_length (k v : Nat) : (wireNat k v).length = k := lowBytes_length k _

@[simp] theorem cardBytes_length (o : Option (Serial × Nat)) : (cardBytes o).length = 6 := by
  cases o with
  | none => rfl
  | some p => simp only [cardBytes, List.length_append, wireNat_length]

/-- Digits that have room in their field fill it. -/
theorem digitField_length {room : Nat} {ds : List Digit} (h : ds.length ≤ 2 * room) :
    (digitField room ds).length = room + 1 := by
  rw [digitField, List.length_cons, List.length_append, List.length_replicate, packDigits_length]
  omega

/-! ## The call record -/

theorem digitField_eq (room : Nat) (ds : List Digit) : digitField room ds =
    [code ds.length] ++ packDigits ds ++ List.replicate (room - (packDigits ds).length) 0xFF := rfl

theorem cardBytes_some (x : Serial) {batch : Nat} (h : batch < 65536) :
    cardBytes (some (x, batch)) = fourBytes x.toNat ++ twoBytes batch := by
  rw [cardBytes, wireNat_serial, wireNat_two batch h]

/-- 11.5: with at most 16 digits dialled, a call record has 41 bytes. -/
theorem recordBytes_length {r : CallRecord} (h : r.dialled.length ≤ 16) : (recordBytes r).length = 41 := by
  simp only [recordBytes, List.length_append, wireNat_length, cardBytes_length, digitField_length (room := 8) h,
    List.length_cons, List.length_nil]

/-! ## The reply to READ_STATION -/

theorem orderBytes_some {o : BurnOrder} (htag : o.tag < 256) (hunits : o.units < 65536) : orderBytes (some o) =
    [code o.tag] ++ fourBytes o.serial.toNat ++ twoBytes o.units ++ [o.purpose.code, o.state.code] := by
  rw [orderBytes, wireNat_one _ htag, wireNat_serial, wireNat_two _ hunits]

/-- A flag that may be absent is set when it is there and set. -/
theorem getD_false_eq_decide (o : Option Bool) : o.getD false = decide (o = some true) := by
  obtain _ | _ | _ := o <;> rfl

/-- Settles O45: each request by what it finds; each reply field by field, a card, a day type, an end cause and an order by
whether it is there or which it is. -/
theorem stateReadBack : Obligations.StateReadBack := by
  refine ⟨fun s i => readStation_of_station s (stationOf_code i), fun s b hb => readStation_of_none s (stationOf_eq_none hb),
    fun s => rfl, fun s p => ⟨fetchRecord_of_gt s, fun hp hcount => fetchRecord_of_none s hp (List.getElem?_eq_none hcount),
      fun hp r hr => fetchRecord_of_some s hp hr⟩,
    ⟨rfl, fun n hn => wireNat_one n hn, fun es hes => ?entries, fun removed left hremoved hleft => ?released⟩,
    fun r hfits => ⟨_, packBits_seven _ _ _ _ _ _ _, ?record⟩, fun r _ hdialled => recordBytes_length hdialled,
    fun v ha hb hstored hreserved hbarred => ?status, fun v hcls hfailures horder => ?station, ?codes⟩
  case entries => rw [ReplyBody.bytes, wireNat_one _ hes, List.singleton_append]
  case released => rw [ReplyBody.bytes, wireNat_two _ hremoved, wireNat_two _ hleft]
  case record =>
    obtain ⟨hnumber, htalk, hbegun, hburned, hunresolved, hbatch⟩ := hfits
    rw [ReplyBody.bytes, recordBytes, digitField_eq, wireNat_four _ hnumber, wireNat_four _ htalk, wireNat_two _ hbegun,
      wireNat_two _ hburned, wireNat_two _ hunresolved]
    simp only [← List.append_assoc]
    congr 12
    · cases hcard : r.card with
      | none => rfl
      | some p => exact cardBytes_some p.1 (hbatch p.1 p.2 hcard)
    · cases r.openTime.dayType <;> rfl
    · cases r.endCause <;> rfl
  case status =>
    rewrite [ReplyBody.bytes, statusBytes, wireNat_one _ ha, wireNat_one _ hb, wireNat_two _ hstored, wireNat_one _ hreserved,
      wireNat_one _ hbarred]
    rfl
  case station =>
    rw [← getD_false_eq_decide, ← beq_eq_decide]
    refine ⟨_, packBits_six _ _ _ _ _ _, ?_⟩
    rw [ReplyBody.bytes, stationBytes, wireNat_one _ hcls, wireNat_one _ hfailures]
    congr 3
    · cases v.card with
      | none => exact wireNat_four 0 (by decide)
      | some x => exact wireNat_serial x
    · cases ho : v.order with
      | none => rfl
      | some o => exact orderBytes_some (horder o ho).1 (horder o ho).2
  case codes => exact ⟨rfl, rfl, rfl, rfl, rfl, rfl, fun _ => rfl⟩

end Sys2Proof.Machine

/-! # The row line (08): frames offered to the two lines, and nothing else done to them -/

namespace Sys2Proof.Machine

/-! ## The word: a change that only offers -/

/-- R154, R169: from `s` to `t` frames are offered to the two lines, and nothing else is done to them. -/
inductive State.Offers (s : State) : State → Prop
  | refl : s.Offers s
  /-- R154: an offer to the row outbound queue. -/
  | row {t : State} (h : s.Offers t) (f : RowOutFrame) : s.Offers (t.offerRow f)
  /-- R169: an offer to the link outbound queue. -/
  | link {t : State} (h : s.Offers t) (m : LinkMsg) : s.Offers (t.offerLink m)
  /-- The other blocks change. -/
  | elsewhere {t u : State} (h : s.Offers t) (hrlc : u.rlc = t.rlc) (hxlc : u.xlc = t.xlc) : s.Offers u

/-! ## Updates of the other blocks -/

section
variable {s t : State} (h : s.Offers t)
include h

theorem State.Offers.tellStation (i : StationId) (m : RowMsg) : s.Offers (t.tellStation i m) := h.row _

theorem State.Offers.tellCard (i : StationId) (m : RowMsg) : s.Offers (t.tellCard i m) := h.row _

theorem State.Offers.mapStation (i : StationId) (f : StationRecord → StationRecord) : s.Offers (t.mapStation i f) :=
  h.elsewhere rfl rfl

theorem State.Offers.mapContext (i : StationId) (f : CallContext → CallContext) : s.Offers (t.mapContext i f) :=
  h.elsewhere rfl rfl

theorem State.Offers.withCards (cs : List CardRecord) : s.Offers (t.withCards cs) := h.elsewhere rfl rfl

theorem State.Offers.ct (c : CardTable) : s.Offers { t with ct := c } := h.elsewhere rfl rfl

theorem State.Offers.de (d : DebitEngine) : s.Offers { t with de := d } := h.elsewhere rfl rfl

theorem State.Offers.mu (m : Management) : s.Offers { t with mu := m } := h.elsewhere rfl rfl

theorem State.Offers.refreshAttn : s.Offers t.refreshAttn := h.elsewhere rfl rfl

/-- What every turn offers, all in turn do. -/
theorem State.Offers.foldl {f : State → StationId → State} (hf : ∀ {u}, s.Offers u → ∀ i, s.Offers (f u i))
    (l : List StationId) : s.Offers (l.foldl f t) :=
  List.foldlRecOn l f h fun _ hu i _ => hf hu i

end

/-! ## Clearing, service and barring -/

section
variable {s t : State} (h : s.Offers t) (i : StationId)
include h

theorem State.Offers.removeCard : s.Offers (t.removeCard i) := by
  unfold State.removeCard
  split
  next => exact (h.withCards _).mapStation i _
  next => exact h

/-- R21: a completion offers nothing. -/
theorem State.Offers.complete (x : CallContext) : s.Offers (t.complete i x) := by
  have hstored : s.Offers ((t.storeRecord i x).unpinBank x.bank) := h.elsewhere rfl rfl
  unfold State.complete
  dsimp only
  split
  next => exact (hstored.removeCard i).mapStation i _
  next => exact hstored.mapStation i _

theorem State.Offers.completeIfDone : s.Offers (t.completeIfDone i) := by
  obtain heq | ⟨x, _, _, _, _, heq⟩ := t.completeIfDone_cases i <;> rw [heq]
  · exact h
  · exact h.complete i x

theorem State.Offers.startClear (c : EndCause) : s.Offers (t.startClear i c) :=
  (((h.mapStation i _).link _).tellStation i _).completeIfDone i

theorem State.Offers.clearLinkDown : s.Offers (t.clearLinkDown i) :=
  ((h.mapStation i _).tellStation i _).completeIfDone i

theorem State.Offers.exchangeClear (x : Byte) : s.Offers (t.exchangeClear i x) :=
  (((h.mapStation i _).link _).tellStation i _).completeIfDone i

theorem State.Offers.releaseCall : s.Offers (t.releaseCall i) := by
  unfold State.releaseCall
  split
  next =>
    split
    next => exact h
    next => exact (h.mapStation i _).completeIfDone i
  next => exact h

theorem State.Offers.linkDownStation : s.Offers (t.linkDownStation i) := by
  unfold State.linkDownStation
  split
  next => exact h.clearLinkDown i
  next => exact h.clearLinkDown i
  next => exact h.releaseCall i
  all_goals exact h

theorem State.Offers.takeOut (r : OutReason) : s.Offers (t.takeOut i r) := by
  unfold State.takeOut
  split
  next => exact (h.mapStation i _).tellStation i _
  next => exact ((h.removeCard i).mapStation i _).tellStation i _
  next => exact ((h.mapStation i _).startClear i _).tellStation i _
  next => exact ((h.mapStation i _).startClear i _).tellStation i _
  next => exact (h.mapStation i _).tellStation i _
  next => exact h

theorem State.Offers.putInService : s.Offers (t.putInService i) := by
  unfold State.putInService
  split
  next => exact ((h.mapStation i _).de _).tellStation i _
  next => exact h

theorem State.Offers.setMode (k : Nat) (m : Mode) : s.Offers (t.setMode i k m) := by
  have hcls := h.mapStation i fun r => { r with cls := k }
  cases m with
  | into => exact hcls.putInService i
  | out => exact hcls.takeOut i .takenOut

theorem State.Offers.lostToBar : s.Offers (t.lostToBar i) := by
  unfold State.lostToBar
  split
  next => exact h.mapStation i _
  next => exact h.startClear i _
  next => exact h.startClear i _
  all_goals exact h

theorem State.Offers.barCard (x : Serial) (c : Byte) : s.Offers (t.barCard i x c) :=
  (((h.withCards _).tellCard i _).mapStation i _).lostToBar i

theorem State.Offers.cardOut : s.Offers (t.cardOut i) := by
  unfold State.cardOut
  split
  next => exact (h.removeCard i).mapStation i _
  next => exact (h.removeCard i).startClear i _
  next => exact (h.removeCard i).startClear i _
  next => exact h.removeCard i
  next => exact h

end

/-! ## Cards and calls judged -/

section
variable {s t : State} (h : s.Offers t)
include h

theorem State.Offers.barRange (r : HotRange) : s.Offers (t.barRange r) := by
  refine h.foldl (fun {u} hu i => ?_) stationIds
  obtain ⟨_, _, _, _, heq⟩ | ⟨heq, _⟩ := u.barIfCovered_cases r i <;> rw [heq]
  · exact hu.barCard i _ _
  · exact hu

theorem State.Offers.countStrike (x : Serial) : s.Offers (t.countStrike x) := by
  have hstruck := h.withCards (changeCard x CardRecord.strike t.ct.cards)
  unfold State.countStrike
  dsimp only
  split
  next =>
    split
    next =>
      split
      next => exact (hstruck.ct _).barCard _ x 0
      next => exact hstruck.ct _
    next => exact hstruck
  next => exact hstruck

theorem State.Offers.judgeCard (i : StationId) (x : Serial) (batch units : Nat) :
    s.Offers (t.judgeCard i x batch units) := by
  unfold State.judgeCard
  split
  next => exact (((h.withCards _).de _).mapStation i _).tellCard i _
  next =>
    refine State.Offers.tellCard ?_ i _
    split
    next => exact h.countStrike x
    next => exact h

/-- R11: the pin, the reservation and the station record stand in other blocks. -/
theorem State.Offers.openCall (i : StationId) (digits : List Digit) (x : BankId) (k : CallKind) :
    s.Offers (t.openCall i digits x k) := by
  have hreserved : s.Offers { t.pinBank x with rq := (t.pinBank x).rq.reserve } := h.elsewhere rfl rfl
  unfold State.openCall
  exact ((hreserved.mapStation i _).link _).mapStation i _

theorem State.Offers.judgeNumber (i : StationId) (digits : List Digit) : s.Offers (t.judgeNumber i digits) := by
  unfold State.judgeNumber
  split
  next => exact h.openCall i digits _ _
  next => exact h.tellStation i _

end

/-! ## Orders and their outcomes -/

section
variable {s t : State} (h : s.Offers t) (i : StationId)
include h

theorem State.Offers.markFinal (c : FinalCause) : s.Offers (t.markFinal i c) := (h.mapContext i _).tellStation i _

theorem State.Offers.cutBack (l : List Interval) (c : FinalCause) : s.Offers (t.cutBack i l c) := by
  have hcut := h.mapStation i fun r => { r with intervals := l }
  unfold State.cutBack
  dsimp only
  split
  next => exact hcut.startClear i _
  next => exact hcut.markFinal i c

theorem State.Offers.outcomeInTalk (o : BurnOrder) (out : OrderOutcome) (x : CallContext) :
    s.Offers (t.outcomeInTalk i o out x) := by
  cases out with
  | full now => exact h.mapStation i fun r => { r with intervals := payAll r.intervals }
  | short b now => exact h.cutBack i _ _
  | undelivered => exact h.cutBack i _ _
  | timedOut => exact h.cutBack i _ _

theorem State.Offers.outcomeToCall (o : BurnOrder) (out : OrderOutcome) : s.Offers (t.outcomeToCall i o out) := by
  have htotals := h.mapContext i (o.totals out)
  unfold State.outcomeToCall
  dsimp only
  split
  next => exact htotals.outcomeInTalk i o out _
  next => exact (htotals.mapContext i _).completeIfDone i
  next => exact htotals

/-- R88: counts, card and order stand in other blocks; what the CC and the service do may offer. -/
theorem State.Offers.outcomeSteps (o : BurnOrder) (out : OrderOutcome) : s.Offers (t.outcomeSteps i o out) := by
  have hnoted : s.Offers (t.outcomeNoted i o out) := by
    unfold State.outcomeNoted State.cardUpdate
    split <;> exact h.elsewhere rfl rfl
  rw [State.outcomeSteps_eq]
  split
  next => exact (hnoted.outcomeToCall i o out).takeOut i _
  next => exact hnoted.outcomeToCall i o out

theorem State.Offers.issueOrder (x : Serial) (units : Nat) (p : Purpose) : s.Offers (t.issueOrder i x units p) := by
  unfold State.issueOrder
  dsimp only
  split
  next => exact (h.de _).row _
  next => exact (h.de _).outcomeSteps i _ _

theorem State.Offers.considerReplenish : s.Offers (t.considerReplenish i) := by
  unfold State.considerReplenish
  split
  next =>
    split
    next =>
      split
      next =>
        unfold State.replenish
        dsimp only
        split
        next => exact h.markFinal i _
        next => exact (h.mapStation i _).issueOrder i _ _ _
      next => exact h
    next => exact h
  next => exact h

theorem State.Offers.takeOutcome (o : BurnOrder) (out : OrderOutcome) : s.Offers (t.takeOutcome i o out) := by
  cases out with
  | full now => exact (h.outcomeSteps i o _).considerReplenish i
  | short b now => exact h.outcomeSteps i o _
  | undelivered => exact h.outcomeSteps i o _
  | timedOut => exact h.outcomeSteps i o _

/-! ## The answer, the head, reports -/

theorem State.Offers.answerCharged (x : BankId) (b : Band) : s.Offers (t.answerCharged i x b) := by
  unfold State.answerCharged
  dsimp only
  split
  next =>
    split
    next => exact (h.mapStation i _).startClear i _
    next => exact (((h.mapStation i _).mapStation i _).tellStation i _).issueOrder i _ _ _
  next => exact (h.mapStation i _).startClear i _

theorem State.Offers.answerCall : s.Offers (t.answerCall i) := by
  unfold State.answerCall
  split
  next =>
    split
    next => exact (h.mapStation i _).tellStation i _
    next => exact h.answerCharged i _ _
  next => exact h.link _

theorem State.Offers.headExpired (x : CallContext) : s.Offers (t.headExpired i x) := by
  unfold State.headExpired
  split
  next => exact h.startClear i _
  next =>
    split
    next => exact (h.mapStation i _).considerReplenish i
    next => exact h.startClear i _

theorem State.Offers.takeReport (tag burned now : Nat) : s.Offers (t.takeReport i tag burned now) := by
  unfold State.takeReport
  split
  next o _ =>
    split
    next =>
      have hretired : s.Offers (t.retireTag i o) := by
        unfold State.retireTag
        split
        next => exact h.de _
        next => exact h
      exact hretired.takeOutcome i o _
    next => exact h
  next => exact h

theorem State.Offers.burnDelivered (tag : Nat) : s.Offers (t.burnDelivered i tag) := by
  unfold State.burnDelivered
  split <;> exact h.de _

theorem State.Offers.burnUndelivered (tag : Nat) : s.Offers (t.burnUndelivered i tag) := by
  unfold State.burnUndelivered
  split
  next => exact h.takeOutcome i _ _
  next => exact h.de _

theorem State.Offers.exchangeClears (x : Byte) : s.Offers (t.exchangeClears i x) := by
  unfold State.exchangeClears
  split
  next => exact h.exchangeClear i x
  next => exact h.exchangeClear i x
  next => exact h.releaseCall i
  all_goals exact h.link _

theorem State.Offers.exchangeReleases : s.Offers (t.exchangeReleases i) := by
  unfold State.exchangeReleases
  split
  next => exact h.releaseCall i
  next => exact h

end

/-! ## Management requests -/

section
variable {s t : State} (h : s.Offers t)
include h

theorem State.Offers.writeHot (k : Nat) (e : EntryRead HotRange) : s.Offers (t.writeHot k e).2 := by
  unfold State.writeHot
  dsimp only
  split
  next => exact h
  next => exact h.ct _
  next r =>
    split
    next => exact h
    next =>
      dsimp only
      exact State.Offers.barRange (h.ct _) r

theorem State.Offers.writeBatch (k : Nat) (e : EntryRead BatchEntry) : s.Offers (t.writeBatch k e).2 := by
  unfold State.writeBatch
  dsimp only
  split
  next => exact h
  next => exact h.ct _
  next => split <;> exact h.elsewhere rfl rfl

theorem State.Offers.writeBank {α : Type} (x : BankId) (e : EntryRead α) (repeats : Bank → α → Bool)
    (store : Option α → Bank → Bank) : s.Offers (t.writeBank x e repeats store).2 := by
  unfold State.writeBank
  dsimp only
  split
  next => exact h
  next =>
    split
    next => exact h
    next => exact h.elsewhere rfl rfl
    next => split <;> exact h.elsewhere rfl rfl

theorem State.Offers.writeEntry (bytes : List Byte) : s.Offers (t.writeEntry bytes).2 := by
  unfold State.writeEntry
  dsimp only
  split
  next => exact h.writeHot _ _
  next => exact h.writeBatch _ _
  next => exact h.writeBank _ _ _ _
  next => exact h.writeBank _ _ _ _
  next => exact h.writeBank _ _ _ _
  next => exact h

theorem State.Offers.writeAll (es : List (List Byte)) (n : Nat) : s.Offers (t.writeAll es n).state := by
  induction es generalizing t n with
  | nil => exact h
  | cons e es ih =>
    have hone := h.writeEntry e
    unfold State.writeAll
    split
    next u heq => rw [heq] at hone; exact ih (hone.mu _) (n + 1)
    next st u _ heq => rw [heq] at hone; exact hone

theorem State.Offers.readAll (n : Nat) : s.Offers (t.readAll n).2 := by
  induction n generalizing t with
  | zero => exact h
  | succ n ih => exact ih (h.mu _)

theorem State.Offers.activate (x : BankId) : s.Offers (t.activate x).2 := by
  unfold State.activate
  split
  next => exact h
  next => exact h
  next => exact h
  next => split <;> exact h.elsewhere rfl rfl

variable (data : List Byte)

theorem State.Offers.selectPage : s.Offers (Machine.selectPage data t).state := by
  unfold Machine.selectPage
  split
  next => split <;> exact h.elsewhere rfl rfl
  next => exact h

theorem State.Offers.writeEntries : s.Offers (Machine.writeEntries data t).state := by
  unfold Machine.writeEntries
  split
  next => exact h
  next =>
    split_ifs
    · exact h
    · exact h.writeAll _ 0
    · exact h

theorem State.Offers.readEntries : s.Offers (Machine.readEntries data t).state := by
  unfold Machine.readEntries
  split
  next =>
    split
    next => exact h.readAll _
    next => exact h
  next => exact h

theorem State.Offers.activateBank : s.Offers (Machine.activateBank data t).state := by
  unfold Machine.activateBank
  split
  next =>
    split
    next => exact h.activate _
    next => exact h
  next => exact h

theorem State.Offers.setService : s.Offers (Machine.setService data t).state := by
  unfold Machine.setService
  split
  next =>
    split
    next => exact h
    next =>
      split_ifs
      · exact h
      · exact h
      · exact (h.mu _).row _
  next => exact h

theorem State.Offers.setStation : s.Offers (Machine.setStation data t).state := by
  unfold Machine.setStation
  split
  next =>
    split
    next =>
      split
      next => exact (h.setMode _ _ _).refreshAttn
      next => exact h
    next => exact h
  next => exact h

theorem State.Offers.readStation : s.Offers (Machine.readStation data t).state := by
  unfold Machine.readStation
  split
  next => split <;> exact h
  next => exact h

theorem State.Offers.readStatus : s.Offers (Machine.readStatus data t).state := by
  unfold Machine.readStatus
  split <;> exact h

theorem State.Offers.fetchRecord : s.Offers (Machine.fetchRecord data t).state := by
  unfold Machine.fetchRecord
  split
  next =>
    split
    next => exact h
    next => split <;> exact h
  next => exact h

theorem State.Offers.releaseRecords : s.Offers (Machine.releaseRecords data t).state := by
  unfold Machine.releaseRecords
  split <;> exact h.elsewhere rfl rfl

theorem State.Offers.removeAutobar : s.Offers (Machine.removeAutobar data t).state := by
  unfold Machine.removeAutobar
  split
  next => split <;> exact h.elsewhere rfl rfl
  next => exact h

/-- R28: records are stored and banks unpinned; no frame is queued. -/
theorem State.Offers.restartStation (i : StationId) : s.Offers (t.restartStation i) := by
  unfold State.restartStation State.storeRestart
  split <;> exact h.elsewhere rfl rfl

end

end Sys2Proof.Machine

/-! # The row line (08): what every step keeps of the two lines -/

namespace Sys2Proof.Machine

/-! ## Each line by itself -/

/-- R151, R154, R155: the row line keeps to its rooms, and its sending side agrees. -/
structure RowLine.Sound (r : RowLine) : Prop where
  inbound : r.inbound.length ≤ rowInboundRoom
  outbound : r.outbound.length ≤ rowOutboundRoom
  agrees : r.Agrees

/-- R165, R169, R171: the link keeps to its rooms, and its state, timer and queue agree. -/
structure ExchangeLink.Sound (x : ExchangeLink) : Prop where
  inbound : x.inbound.length ≤ linkInboundRoom
  outbound : x.outbound.length ≤ linkOutboundRoom
  agrees : x.Agrees

theorem State.linesAgree_iff (s : State) : s.LinesAgree ↔ s.rlc.Sound ∧ s.xlc.Sound := by
  constructor
  · rintro ⟨⟨hri, hro, hxi, hxo⟩, hr, hx⟩
    exact ⟨⟨hri, hro, hr⟩, ⟨hxi, hxo, hx⟩⟩
  · rintro ⟨⟨hri, hro, hr⟩, ⟨hxi, hxo, hx⟩⟩
    exact ⟨⟨hri, hro, hxi, hxo⟩, hr, hx⟩

/-! ## The row line -/

section
variable {r : RowLine}

/-- Nothing queued, nothing being sent. -/
theorem RowLine.agrees_of_empty (hout : r.outbound = []) (hs : r.sending = .empty) (ha : r.attempts = 0) : r.Agrees := by
  rw [RowLine.Agrees, hs]
  exact ⟨hout, ha⟩

/-- R154, R155: an offer makes an EMPTY side wait, and leaves any other as it was. -/
theorem RowLine.Agrees.offer (h : r.Agrees) (f : RowOutFrame) : (r.offer f).Agrees := by
  by_cases hroom : r.outbound.length < rowOutboundRoom
  · rw [RowLine.offer_of_room r f hroom]
    cases hs : r.sending <;> simp_all [RowLine.Agrees]
  · rwa [RowLine.offer_of_full r f (Nat.le_of_not_lt hroom)]

theorem RowLine.Sound.offer (h : r.Sound) (f : RowOutFrame) : (r.offer f).Sound :=
  ⟨by rw [RowLine.offer_inbound]; exact h.inbound, r.offer_length f h.outbound, h.agrees.offer f⟩

/-- R152: a frame taken makes room. -/
theorem RowLine.Sound.taken (h : r.Sound) {f : RowInFrame} {rest : List RowInFrame} (hin : r.inbound = f :: rest) :
    { r with inbound := rest }.Sound := by
  have hfit := h.inbound
  rw [hin, List.length_cons] at hfit
  exact ⟨(Nat.le_succ _).trans hfit, h.outbound, h.agrees⟩

/-- R150, R151: a good frame is appended only below 16 entries. -/
theorem RowLine.Sound.receive (h : r.Sound) (bytes : List Byte) : (r.receive bytes).Sound := by
  unfold RowLine.receive
  split
  next => exact h
  next =>
    split
    next => exact ⟨h.inbound, h.outbound, h.agrees⟩
    next => exact ⟨h.inbound, h.outbound, h.agrees⟩
    next =>
      unfold RowLine.accept
      split
      next hroom => exact ⟨by rw [List.length_append]; exact hroom, h.outbound, h.agrees⟩
      next => exact ⟨h.inbound, h.outbound, h.agrees⟩

/-- R155: WAITING has begun no transmission, RETRY at most three: one more may start. -/
theorem RowLine.Sound.transmit (h : r.Sound) (hs : r.sending = .waiting ∨ r.sending = .retry) : r.transmit.Sound := by
  have hlt : r.attempts < maxAttempts := by
    have hagrees := h.agrees
    obtain hs | hs := hs <;> rw [RowLine.Agrees, hs] at hagrees
    · obtain ⟨_, hzero⟩ := hagrees
      exact hzero ▸ Nat.zero_lt_succ _
    · obtain ⟨_, _, hlt⟩ := hagrees
      exact hlt
  unfold RowLine.transmit
  split
  next => exact h
  next f rest hout =>
    refine ⟨h.inbound, h.outbound, ?_⟩
    show r.outbound ≠ [] ∧ 1 ≤ r.attempts + 1 ∧ r.attempts + 1 ≤ maxAttempts
    exact ⟨by rw [hout]; nofun, Nat.le_add_left 1 _, hlt⟩

/-- R155: a frame on the line is the head, in SENDING. -/
theorem RowLine.sending_of_onLine {f : RowOutFrame} (h : r.onLine = some f) : r.sending = .sending := by
  unfold RowLine.onLine at h
  split at h
  next hs => exact hs
  next => cases h

/-- R155: below four transmissions the side goes from SENDING to RETRY. -/
theorem RowLine.Sound.retry (h : r.Sound) (hs : r.sending = .sending) (hlt : r.attempts < maxAttempts) :
    { r with sending := .retry }.Sound := by
  have hagrees := h.agrees
  rw [RowLine.Agrees, hs] at hagrees
  obtain ⟨hout, hone, _⟩ := hagrees
  exact ⟨h.inbound, h.outbound, ⟨hout, hone, hlt⟩⟩

/-- R155: without its head the queue is empty or waits, whatever was being sent. -/
theorem RowLine.agrees_dropHead (r : RowLine) : r.dropHead.Agrees := by
  cases htail : r.outbound.tail <;> simp [RowLine.Agrees, RowLine.dropHead, htail]

theorem RowLine.Sound.dropHead (h : r.Sound) : r.dropHead.Sound := by
  refine ⟨h.inbound, ?_, r.agrees_dropHead⟩
  have hfit := h.outbound
  show r.outbound.tail.length ≤ rowOutboundRoom
  rw [List.length_tail]
  omega

theorem RowLine.sound_restarted (r : RowLine) : r.restarted.Sound :=
  ⟨Nat.zero_le _, Nat.zero_le _, RowLine.agrees_of_empty rfl rfl rfl⟩

end

/-! ## The exchange link -/

section
variable {x : ExchangeLink}

/-- Link state, timer and outbound queue decide; the queue may also have become empty. -/
theorem ExchangeLink.Agrees.of_outbound {y : ExchangeLink} (h : x.Agrees) (hlink : y.link = x.link)
    (hsilence : y.silence.isSome = x.silence.isSome) (hout : x.outbound = [] → y.outbound = []) : y.Agrees := by
  cases hl : x.link with
  | up => simp_all [ExchangeLink.Agrees]
  | down => simp_all [ExchangeLink.Agrees]

/-- R169: a DOWN link loses what is offered to it. -/
theorem ExchangeLink.Sound.offer (h : x.Sound) (m : LinkMsg) : (x.offer m).Sound := by
  refine ⟨by rw [ExchangeLink.offer_inbound]; exact h.inbound, x.offer_length m h.outbound, ?_⟩
  cases hl : x.link with
  | down => rw [ExchangeLink.offer_lost x m (.inl hl)]; exact h.agrees
  | up =>
    have hagrees := h.agrees
    rw [ExchangeLink.Agrees, hl] at hagrees
    rw [ExchangeLink.Agrees, ExchangeLink.offer_link, hl, ExchangeLink.offer_silence]
    exact hagrees

/-- R165: a frame taken makes room. -/
theorem ExchangeLink.Sound.taken (h : x.Sound) {m : LinkInMsg} {rest : List LinkInMsg} (hin : x.inbound = m :: rest) :
    { x with inbound := rest }.Sound := by
  have hfit := h.inbound
  rw [hin, List.length_cons] at hfit
  exact ⟨(Nat.le_succ _).trans hfit, h.outbound, h.agrees⟩

/-- R164, R172: a valid frame makes the link UP, its timer running. -/
theorem ExchangeLink.Sound.alive (h : x.Sound) : x.alive.Sound := ⟨h.inbound, h.outbound, rfl⟩

/-- R164, R165: an accepted frame is appended only below 32 entries. -/
theorem ExchangeLink.Sound.accept (h : x.Sound) (m : LinkInMsg) : (x.accept m).Sound := by
  unfold ExchangeLink.accept
  split
  next hroom => exact ⟨by rw [List.length_append]; exact hroom, h.outbound, h.agrees⟩
  next => exact h

theorem ExchangeLink.Sound.receive (h : x.Sound) (bytes : List Byte) : (x.receive bytes).Sound := by
  unfold ExchangeLink.receive
  split
  next => exact h
  next => exact h.alive
  next => exact h.alive.accept _

/-- R170: a frame sent to its end leaves the queue, or was no longer in it. -/
theorem ExchangeLink.Sound.sent (h : x.Sound) : x.sent.Sound := by
  unfold ExchangeLink.sent
  split
  next => exact ⟨h.inbound, h.outbound, h.agrees⟩
  next f rest _ hout =>
    have hfit := h.outbound
    rw [hout, List.length_cons] at hfit
    exact ⟨h.inbound, (Nat.le_succ _).trans hfit, h.agrees.of_outbound rfl rfl (by rw [hout]; nofun)⟩
  next => exact h

/-- R173: DOWN, with no timer and nothing queued. -/
theorem ExchangeLink.Sound.goDown (h : x.Sound) : x.goDown.Sound := ⟨h.inbound, Nat.zero_le _, rfl, rfl⟩

/-- R175: link state and timer stay. -/
theorem ExchangeLink.Sound.restarted (h : x.Sound) : x.restarted.Sound :=
  ⟨Nat.zero_le _, Nat.zero_le _, h.agrees.of_outbound rfl rfl fun _ => rfl⟩

/-- R122: the timer counts down, and runs on. -/
theorem ExchangeLink.Sound.tick (h : x.Sound) : { x with silence := tickTimer x.silence }.Sound :=
  ⟨h.inbound, h.outbound, h.agrees.of_outbound rfl Option.isSome_map id⟩

end

/-! ## Updates of the state -/

section
variable {s t : State}

/-- The two lines decide. -/
theorem State.LinesAgree.of_lines (h : s.LinesAgree) (hrlc : t.rlc = s.rlc) (hxlc : t.xlc = s.xlc) : t.LinesAgree := by
  rw [State.linesAgree_iff] at h ⊢
  rwa [hrlc, hxlc]

theorem State.LinesAgree.rlc (h : s.LinesAgree) {r : RowLine} (hr : s.rlc.Sound → r.Sound) :
    { s with rlc := r }.LinesAgree := by
  obtain ⟨hrow, hlink⟩ := s.linesAgree_iff.1 h
  exact (State.linesAgree_iff _).2 ⟨hr hrow, hlink⟩

theorem State.LinesAgree.xlc (h : s.LinesAgree) {x : ExchangeLink} (hx : s.xlc.Sound → x.Sound) :
    { s with xlc := x }.LinesAgree := by
  obtain ⟨hrow, hlink⟩ := s.linesAgree_iff.1 h
  exact (State.linesAgree_iff _).2 ⟨hrow, hx hlink⟩

theorem State.LinesAgree.refreshAttn (h : s.LinesAgree) : s.refreshAttn.LinesAgree := h.of_lines rfl rfl

/-- Offers keep the lines as they must be. -/
theorem State.LinesAgree.of_offers (h : s.LinesAgree) (ho : s.Offers t) : t.LinesAgree := by
  induction ho with
  | refl => exact h
  | row _ f ih => exact ih.rlc fun hr => hr.offer f
  | link _ m ih => exact ih.xlc fun hx => hx.offer m
  | elsewhere _ hrlc hxlc ih => exact ih.of_lines hrlc hxlc

theorem State.LinesAgree.takeRow (h : s.LinesAgree) {f : RowInFrame} (htake : s.takeRow = some (f, t)) : t.LinesAgree := by
  obtain ⟨rest, hin, rfl⟩ := State.takeRow_eq_some htake
  exact h.rlc fun hr => hr.taken hin

theorem State.LinesAgree.takeLink (h : s.LinesAgree) {m : LinkInMsg} (htake : s.takeLink = some (m, t)) : t.LinesAgree := by
  obtain ⟨rest, hin, rfl⟩ := State.takeLink_eq_some htake
  exact h.xlc fun hx => hx.taken hin

end

/-! ## The frame on the row line -/

section
variable {s : State} (h : s.LinesAgree)
include h

theorem State.LinesAgree.lineFree : s.lineFree.LinesAgree := by
  unfold State.lineFree
  split
  next hs => exact h.rlc fun hr => hr.transmit (.inl hs)
  next => exact h

theorem State.LinesAgree.retryDue : s.retryDue.LinesAgree := by
  unfold State.retryDue
  split
  next hs => exact h.rlc fun hr => hr.transmit (.inr hs)
  next => exact h

/-- R156: the head leaves, and the DE may offer. -/
theorem State.LinesAgree.headDelivered (f : RowOutFrame) : (s.headDelivered f).LinesAgree := by
  have hdropped : { s with rlc := s.rlc.dropHead }.LinesAgree := h.rlc fun hr => hr.dropHead
  unfold State.headDelivered
  dsimp only
  split
  next => exact hdropped.of_offers (State.Offers.refl.burnDelivered _ _)
  next => exact hdropped

theorem State.LinesAgree.headUndelivered (f : RowOutFrame) : (s.headUndelivered f).LinesAgree := by
  have hdropped : { s with rlc := s.rlc.dropHead }.LinesAgree := h.rlc fun hr => hr.dropHead
  unfold State.headUndelivered
  dsimp only
  split
  next => exact hdropped.of_offers (State.Offers.refl.burnUndelivered _ _)
  next => exact hdropped

theorem State.LinesAgree.transmissionFailed {f : RowOutFrame} (hline : s.rlc.onLine = some f) :
    (s.transmissionFailed f).LinesAgree := by
  unfold State.transmissionFailed
  split
  next hlt => exact h.rlc fun hr => hr.retry (RowLine.sending_of_onLine hline) hlt
  next => exact h.headUndelivered f

theorem State.LinesAgree.spoiled : s.spoiled.LinesAgree := by
  unfold State.spoiled
  split
  next hline => exact (h.transmissionFailed hline).refreshAttn
  next => exact h

theorem State.LinesAgree.slotEnds (heard : Option Byte) : (s.slotEnds heard).LinesAgree := by
  unfold State.slotEnds
  split
  next => exact h
  next hline =>
    split
    next => exact h
    next =>
      split
      next => exact (h.headDelivered _).refreshAttn
      next => exact (h.headUndelivered _).refreshAttn
      next => exact (h.transmissionFailed hline).refreshAttn
      next => exact (h.transmissionFailed hline).refreshAttn

theorem State.LinesAgree.broadcastEnds : s.broadcastEnds.LinesAgree := by
  unfold State.broadcastEnds
  split
  next => exact h
  next =>
    split
    next => exact h.headDelivered _
    next => exact h

/-! ## Station frames taken -/

theorem State.LinesAgree.takeCardIn : s.takeCardIn.LinesAgree := by
  unfold State.takeCardIn
  split
  next htake => exact (h.takeRow htake).of_offers (State.Offers.refl.judgeCard _ _ _ _)
  next => exact h

theorem State.LinesAgree.takeCardOut : s.takeCardOut.LinesAgree := by
  unfold State.takeCardOut
  split
  next htake => exact (h.takeRow htake).of_offers (State.Offers.refl.cardOut _)
  next => exact h

theorem State.LinesAgree.takeNumber : s.takeNumber.LinesAgree := by
  unfold State.takeNumber
  split
  next htake => exact (h.takeRow htake).of_offers (State.Offers.refl.judgeNumber _ _)
  next => exact h

theorem State.LinesAgree.takeHookOn : s.takeHookOn.LinesAgree := by
  unfold State.takeHookOn
  split
  next htake =>
    split
    next => exact (h.takeRow htake).of_offers (State.Offers.refl.startClear _ _)
    next => exact h.takeRow htake
  next => exact h

theorem State.LinesAgree.takeBurnReport : s.takeBurnReport.LinesAgree := by
  unfold State.takeBurnReport
  split
  next htake => exact (h.takeRow htake).of_offers (State.Offers.refl.takeReport _ _ _ _).refreshAttn
  next => exact h

/-! ## Exchange frames taken -/

theorem State.LinesAgree.takeCallAnswered : s.takeCallAnswered.LinesAgree := by
  unfold State.takeCallAnswered
  split
  next htake => exact (h.takeLink htake).of_offers (State.Offers.refl.answerCall _).refreshAttn
  next => exact h

theorem State.LinesAgree.takeCallClear : s.takeCallClear.LinesAgree := by
  unfold State.takeCallClear
  split
  next htake => exact (h.takeLink htake).of_offers (State.Offers.refl.exchangeClears _ _).refreshAttn
  next => exact h

theorem State.LinesAgree.takeCallReleased : s.takeCallReleased.LinesAgree := by
  unfold State.takeCallReleased
  split
  next htake => exact (h.takeLink htake).of_offers (State.Offers.refl.exchangeReleases _).refreshAttn
  next => exact h

theorem State.LinesAgree.takeClock : s.takeClock.LinesAgree := by
  unfold State.takeClock
  split
  next htake => exact (h.takeLink htake).of_lines rfl rfl
  next => exact h

/-- R177: a request and its reply. -/
theorem State.LinesAgree.runRequest (name : Byte) {handle : List Byte → State → Answer}
    (hhandle : ∀ {u : State}, u.LinesAgree → ∀ data, (handle data u).state.LinesAgree) :
    (s.runRequest name handle).LinesAgree := by
  unfold State.runRequest
  split
  next htake =>
    split
    next => exact (hhandle (h.takeLink htake) _).of_offers (.link .refl _)
    next => exact h
  next => exact h

/-- A request that at most offers. -/
theorem State.LinesAgree.runOffering (name : Byte) {handle : List Byte → State → Answer}
    (hhandle : ∀ {u v : State}, u.Offers v → ∀ data, u.Offers (handle data v).state) :
    (s.runRequest name handle).LinesAgree :=
  h.runRequest name fun hu data => hu.of_offers (hhandle .refl data)

theorem State.LinesAgree.runUnknown : s.runUnknown.LinesAgree := by
  unfold State.runUnknown
  split
  next htake =>
    split
    next => exact h
    next => exact (h.takeLink htake).of_offers (.link .refl _)
  next => exact h

/-- R188, R161, R175: both lines lose their queues, the link keeps its state. -/
theorem State.LinesAgree.restartLine (data : List Byte) : (Machine.restartLine data s).state.LinesAgree := by
  unfold Machine.restartLine
  split
  next =>
    have hstations : s.Offers (stationIds.foldl State.restartStation s) :=
      State.Offers.refl.foldl (fun hu i => hu.restartStation i) stationIds
    obtain ⟨_, hlink⟩ := (State.linesAgree_iff _).1 (h.of_offers hstations)
    exact (State.linesAgree_iff _).2 ⟨RowLine.sound_restarted _, hlink.restarted⟩
  next => exact h

/-! ## Timers -/

theorem State.LinesAgree.answerExpires (i : StationId) : (s.answerExpires i).LinesAgree := by
  unfold State.answerExpires
  split
  next => exact h.of_offers (State.Offers.refl.startClear i _)
  next => exact h

theorem State.LinesAgree.releaseExpires (i : StationId) : (s.releaseExpires i).LinesAgree := by
  unfold State.releaseExpires
  split
  next => exact h.of_offers (State.Offers.refl.releaseCall i).refreshAttn
  next => exact h

theorem State.LinesAgree.headExpires (i : StationId) : (s.headExpires i).LinesAgree := by
  unfold State.headExpires
  split
  next => exact h.of_offers (State.Offers.refl.headExpired i _).refreshAttn
  next => exact h

theorem State.LinesAgree.replyExpires (i : StationId) : (s.replyExpires i).LinesAgree := by
  unfold State.replyExpires
  split
  next =>
    split
    next => exact h.of_offers (State.Offers.refl.takeOutcome i _ _).refreshAttn
    next => exact h
  next => exact h

theorem State.LinesAgree.rememberExpires (x : Serial) : (s.rememberExpires x).LinesAgree := by
  unfold State.rememberExpires
  split
  next => split <;> exact h
  next => exact h

/-- R173: the link goes DOWN, and the stations find it so. -/
theorem State.LinesAgree.silenceExpires : s.silenceExpires.LinesAgree := by
  unfold State.silenceExpires
  split
  next =>
    have hdown : { s with xlc := s.xlc.goDown }.LinesAgree := h.xlc fun hx => hx.goDown
    exact (hdown.of_offers (State.Offers.refl.foldl (fun hu i => hu.linkDownStation i) stationIds)).refreshAttn
  next => exact h

theorem State.LinesAgree.untrustExpires : s.untrustExpires.LinesAgree := by
  unfold State.untrustExpires
  split <;> exact h.of_lines rfl rfl

theorem State.LinesAgree.tick : s.tick.LinesAgree := by
  obtain ⟨hrow, hlink⟩ := s.linesAgree_iff.1 h
  exact (State.linesAgree_iff _).2 ⟨hrow, hlink.tick⟩

/-! ## Power -/

omit h in
/-- R151, R155, R165, R171: the lines after a power-up. -/
theorem State.linesAgree_atPowerUp (pins : Pins) (q : RecordQueue) : (s.atPowerUp pins q).LinesAgree :=
  (State.linesAgree_iff _).2 ⟨⟨Nat.zero_le _, Nat.zero_le _, RowLine.agrees_of_empty rfl rfl rfl⟩,
    ⟨Nat.zero_le _, Nat.zero_le _, rfl, rfl⟩⟩

theorem State.LinesAgree.holdReset : s.holdReset.LinesAgree := by
  unfold State.holdReset
  split
  next => exact State.linesAgree_atPowerUp _ _
  next => exact h.of_lines rfl rfl

theorem State.LinesAgree.losePower : s.losePower.LinesAgree := by
  unfold State.losePower
  split
  next => exact (s.linesAgree_atPowerUp s.pins s.rq.unpowered).of_lines rfl rfl
  next => exact h

theorem State.LinesAgree.loseVbak : s.loseVbak.LinesAgree := by
  unfold State.loseVbak
  split <;> exact h.of_lines rfl rfl

/-! ## Every command -/

variable {t : State}

theorem State.LinesAgree.of_whenRunning {f : State → State} (hf : s.LinesAgree → (f s).LinesAgree)
    (hnext : whenRunning f s = .next t) : t.LinesAgree := by
  rw [whenRunning_next f s t hnext]
  split
  next => exact hf h
  next => exact h

theorem State.LinesAgree.exec {c : Instr} (hnext : Machine.exec c s = .next t) : t.LinesAgree := by
  cases c with
  | powerUp => cases hnext; exact (State.linesAgree_atPowerUp _ _).refreshAttn
  | resetAsserted => cases hnext; exact h.holdReset
  | powerLoss => cases hnext; exact h.losePower
  | vbakLost => cases hnext; exact h.loseVbak
  | rowFrameReceived bytes =>
    exact h.of_whenRunning (f := State.rowReceived bytes) (fun hs => hs.rlc fun hr => hr.receive bytes) hnext
  | cardIn => exact h.of_whenRunning .takeCardIn hnext
  | cardOut => exact h.of_whenRunning .takeCardOut hnext
  | number => exact h.of_whenRunning .takeNumber hnext
  | hookOn => exact h.of_whenRunning .takeHookOn hnext
  | burnReport => exact h.of_whenRunning .takeBurnReport hnext
  | lineFree => exact h.of_whenRunning .lineFree hnext
  | retry => exact h.of_whenRunning .retryDue hnext
  | spoiledTransmission => exact h.of_whenRunning .spoiled hnext
  | acknowledgeSlot heard => exact h.of_whenRunning (fun hs => hs.slotEnds heard) hnext
  | broadcastSent => exact h.of_whenRunning .broadcastEnds hnext
  | linkFrameReceived bytes =>
    exact h.of_whenRunning (f := State.linkReceived bytes) (fun hs => (hs.xlc fun hx => hx.receive bytes).refreshAttn) hnext
  | callAnswered => exact h.of_whenRunning .takeCallAnswered hnext
  | callClear => exact h.of_whenRunning .takeCallClear hnext
  | callReleased => exact h.of_whenRunning .takeCallReleased hnext
  | clock => exact h.of_whenRunning .takeClock hnext
  | linkFrameSent => exact h.of_whenRunning (f := State.linkSent) (fun hs => hs.xlc fun hx => hx.sent) hnext
  | selectPage => exact h.of_whenRunning (fun hs => hs.runOffering _ .selectPage) hnext
  | writeEntries => exact h.of_whenRunning (fun hs => hs.runOffering _ .writeEntries) hnext
  | readEntries => exact h.of_whenRunning (fun hs => hs.runOffering _ .readEntries) hnext
  | activateBank => exact h.of_whenRunning (fun hs => hs.runOffering _ .activateBank) hnext
  | setService => exact h.of_whenRunning (fun hs => hs.runOffering _ .setService) hnext
  | setStation => exact h.of_whenRunning (fun hs => hs.runOffering _ .setStation) hnext
  | readStation => exact h.of_whenRunning (fun hs => hs.runOffering _ .readStation) hnext
  | readStatus => exact h.of_whenRunning (fun hs => hs.runOffering _ .readStatus) hnext
  | fetchRecord => exact h.of_whenRunning (fun hs => hs.runOffering _ .fetchRecord) hnext
  | releaseRecords => exact h.of_whenRunning (fun hs => hs.runOffering _ .releaseRecords) hnext
  | removeAutobar => exact h.of_whenRunning (fun hs => hs.runOffering _ .removeAutobar) hnext
  | restartLine => exact h.of_whenRunning (fun hs => hs.runRequest _ .restartLine) hnext
  | mgmtRequestUnknown => exact h.of_whenRunning .runUnknown hnext
  | answerTimerExpiry i => exact h.of_whenRunning (fun hs => hs.answerExpires i) hnext
  | releaseTimerExpiry i => exact h.of_whenRunning (fun hs => hs.releaseExpires i) hnext
  | headIntervalExpiry i => exact h.of_whenRunning (fun hs => hs.headExpires i) hnext
  | replyTimerExpiry i => exact h.of_whenRunning (fun hs => hs.replyExpires i) hnext
  | rememberTimerExpiry x => exact h.of_whenRunning (fun hs => hs.rememberExpires x) hnext
  | silenceTimerExpiry => exact h.of_whenRunning .silenceExpires hnext
  | untrustTimerExpiry => exact h.of_whenRunning .untrustExpires hnext
  | timeOfDayTick => exact h.of_whenRunning .tick hnext

end

/-- Settles O48: taking the command off the queue touches no line, and every command keeps both lines as they must be. -/
theorem linesAgreeAlways : Obligations.LinesAgreeAlways := by
  intro s t h hstep
  unfold step at hstep
  split at hstep
  next => cases hstep; exact h
  next rest _ =>
    have hrest : { s with pending := rest }.LinesAgree := h.of_lines rfl rfl
    exact hrest.exec hstep

end Sys2Proof.Machine

/-! # The row line (08): what an offer does, and what starts and ends a transmission -/

namespace Sys2Proof.Machine

/-- R155: a transmission of the head starts, and the attempt count rises. -/
theorem RowLine.transmit_of_cons {r : RowLine} {f : RowOutFrame} {rest : List RowOutFrame} (hout : r.outbound = f :: rest) :
    r.transmit = { r with sending := .sending, attempts := r.attempts + 1, line := rowBytes f } := by
  simp only [RowLine.transmit, hout]

/-- R170: the head of the link queue has been sent. -/
theorem ExchangeLink.sent_of_cons {x : ExchangeLink} {m : LinkMsg} {rest : List LinkMsg} (hdetached : x.detached = none)
    (hout : x.outbound = m :: rest) : x.sent = { x with outbound := rest, line := linkBytes m } := by
  simp only [ExchangeLink.sent, hdetached, hout]

/-- R173, R175, log 14: the frame whose entry was removed has been sent, and the queue stands as it was. -/
theorem ExchangeLink.sent_of_detached {x : ExchangeLink} {m : LinkMsg} (hdetached : x.detached = some m) :
    x.sent = { x with detached := none, line := linkBytes m } := by
  simp only [ExchangeLink.sent, hdetached]

section
variable {s : State} (hrun : s.running = true)
include hrun

theorem exec_lineFree_eq (hs : s.rlc.sending = .waiting) :
    exec .lineFree s = .next { s with rlc := s.rlc.transmit } := by
  rw [show exec .lineFree s = whenRunning State.lineFree s from rfl, whenRunning_of_running _ s hrun, State.lineFree,
    if_pos hs]

theorem exec_retry_eq (hs : s.rlc.sending = .retry) : exec .retry s = .next { s with rlc := s.rlc.transmit } := by
  rw [show exec .retry s = whenRunning State.retryDue s from rfl, whenRunning_of_running _ s hrun, State.retryDue,
    if_pos hs]

theorem exec_linkFrameSent_eq : exec .linkFrameSent s = .next { s with xlc := s.xlc.sent } := by
  rw [show exec .linkFrameSent s = whenRunning State.linkSent s from rfl, whenRunning_of_running _ s hrun, State.linkSent]

end

/-- Settles O8: each offer by the room and the link state, each transmission by the head of its queue. -/
theorem outboundQueuesFilledAndSent : Obligations.OutboundQueuesFilledAndSent := by
  refine ⟨fun s f => ⟨fun hroom => ?rowQueued, fun hfull => ?rowLost⟩,
    fun s m => ⟨fun hdown => ?linkDown, fun hup hroom => ?linkQueued, fun _ hfull => ?linkFull⟩,
    fun s f rest hrun hout => ⟨fun hs => ?lineFree, fun hs => ?retry⟩,
    fun s m rest hrun hdetached hout => ?sent, fun s m hrun hdetached => ?detached⟩
  case rowQueued => rw [State.offerRow, s.rlc.offer_of_room f hroom]
  case rowLost => rw [State.offerRow, s.rlc.offer_of_full f hfull]
  case linkDown => rw [State.offerLink, s.xlc.offer_lost m (.inl hdown)]
  case linkQueued => rw [State.offerLink, s.xlc.offer_of_room m hup hroom]
  case linkFull => rw [State.offerLink, s.xlc.offer_lost m (.inr hfull)]
  case lineFree => rw [exec_lineFree_eq hrun hs, RowLine.transmit_of_cons hout]
  case retry => rw [exec_retry_eq hrun hs, RowLine.transmit_of_cons hout]
  case sent => rw [exec_linkFrameSent_eq hrun, ExchangeLink.sent_of_cons hdetached hout]
  case detached => rw [exec_linkFrameSent_eq hrun, ExchangeLink.sent_of_detached hdetached]

end Sys2Proof.Machine

/-! # The row line (08): the judgement of a row frame -/

namespace Sys2Proof.Machine

/-! ## The bytes of a whole frame -/

section
variable {origin dest kind check : Byte} {data : List Byte}

/-- R147: whole are the bytes that go as far as their length field says, at most 20 data bytes. -/
theorem exists_rowFrame_of_length {len : Byte} {rest : List Byte} (hlen : len.toNat ≤ 20)
    (hrest : rest.length = len.toNat + 1) :
    ∃ data check, data.length ≤ 20 ∧ origin :: dest :: kind :: len :: rest = rowFrame origin dest kind data check := by
  obtain ⟨data, check, rfl⟩ : ∃ data check, rest = data ++ [check] := by
    cases rest using List.reverseRecOn with
    | nil => cases hrest
    | append_singleton data check => exact ⟨data, check, rfl⟩
  have hdata : data.length = len.toNat := by simpa using hrest
  exact ⟨data, check, hdata ▸ hlen, by rw [rowFrame, hdata, code_toNat]; rfl⟩

/-- R150 step 1: bytes that are no whole frame are broken. -/
theorem judgeRow_of_broken {bytes : List Byte}
    (h : ¬∃ origin dest kind data check, data.length ≤ 20 ∧ bytes = rowFrame origin dest kind data check) :
    judgeRow bytes = .silent := by
  unfold judgeRow
  split
  next origin dest kind len rest =>
    refine if_pos fun ⟨hlen, hrest⟩ => h ⟨origin, dest, kind, exists_rowFrame_of_length hlen hrest⟩
  next => rfl

/-- R150 steps 4 to 6: origin, kind, length and data, judged together. -/
def rowVerdict (origin kind : Byte) (data : List Byte) : RowVerdict :=
  match stationOf origin, rowMsgOf kind data with
  | some i, some m => .accepted ⟨i, m⟩
  | _, _ => .refused

theorem rowVerdict_of_read {i : StationId} {m : RowInMsg} (ho : stationOf origin = some i)
    (hm : rowMsgOf kind data = some m) : rowVerdict origin kind data = .accepted ⟨i, m⟩ := by
  simp only [rowVerdict, ho, hm]

theorem rowVerdict_of_no_station (ho : stationOf origin = none) : rowVerdict origin kind data = .refused := by
  simp only [rowVerdict, ho]

theorem rowVerdict_of_no_message (hm : rowMsgOf kind data = none) : rowVerdict origin kind data = .refused := by
  cases ho : stationOf origin <;> simp only [rowVerdict, ho, hm]

/-- R150 steps 2 to 6 of a whole frame: the check byte, the destination, and what the rest says. -/
theorem judgeRow_rowFrame (hdata : data.length ≤ 20) : judgeRow (rowFrame origin dest kind data check) =
    if check ≠ rowCheck ([origin, dest, kind, code data.length] ++ data) then .silent
    else if dest ≠ 0 then .silent
    else rowVerdict origin kind data := by
  have hlen : (code data.length).toNat = data.length := toNat_code (by omega)
  have hcheck : (data ++ [check]).getD data.length 0 = check := by simp
  have hcovered : (rowFrame origin dest kind data check).take (4 + data.length)
      = [origin, dest, kind, code data.length] ++ data := List.take_left' (by simp; omega)
  rw [rowFrame] at hcovered ⊢
  simp only [List.cons_append, List.nil_append] at hcovered ⊢
  simp only [judgeRow, hlen, hcheck, hcovered, List.take_left, List.length_append, List.length_singleton, hdata, and_self,
    not_true_eq_false, if_false, ne_comm (a := check)]
  rfl

end

/-! ## The answer -/

/-- R150 step 7: BUSY. -/
theorem RowLine.accept_of_full (r : RowLine) (f : RowInFrame) (h : rowInboundRoom ≤ r.inbound.length) :
    r.accept f = { r with answer := some 0x5A } := if_neg (Nat.not_lt.2 h)

/-- R150 step 8: TAKEN and appended. -/
theorem RowLine.accept_of_room (r : RowLine) (f : RowInFrame) (h : r.inbound.length < rowInboundRoom) :
    r.accept f = { r with inbound := r.inbound ++ [f], answer := some 0xA5 } := if_pos h

section
variable {r : RowLine} {bytes : List Byte}

/-- R148: while the RLC transmits it does not receive. -/
theorem RowLine.receive_of_sending (hs : r.sending = .sending) : r.receive bytes = r := if_pos hs

section
variable (hs : r.sending ≠ .sending)
include hs

theorem RowLine.receive_of_silent (hj : judgeRow bytes = .silent) : r.receive bytes = { r with answer := none } := by
  rw [RowLine.receive, if_neg hs, hj]

theorem RowLine.receive_of_refused (hj : judgeRow bytes = .refused) :
    r.receive bytes = { r with answer := some 0xC3 } := by
  rw [RowLine.receive, if_neg hs, hj]
  rfl

/-- R150 steps 7 and 8. -/
theorem RowLine.receive_of_accepted {f : RowInFrame} (hj : judgeRow bytes = .accepted f) : r.receive bytes =
    if 16 ≤ r.inbound.length then { r with answer := some 0x5A }
    else { r with inbound := r.inbound ++ [f], answer := some 0xA5 } := by
  rw [RowLine.receive, if_neg hs, hj]
  by_cases hfull : 16 ≤ r.inbound.length
  · rw [if_pos hfull]
    exact r.accept_of_full f hfull
  · rw [if_neg hfull]
    exact r.accept_of_room f (Nat.lt_of_not_le hfull)

end

end

theorem exec_rowFrameReceived_eq {s : State} (hrun : s.running = true) (bytes : List Byte) :
    exec (.rowFrameReceived bytes) s = .next { s with rlc := s.rlc.receive bytes } := by
  rw [show exec (.rowFrameReceived bytes) s = whenRunning (State.rowReceived bytes) s from rfl,
    whenRunning_of_running _ s hrun, State.rowReceived]

/-- Settles O6: step by step of R150, and after step 6 by the origin and the message that were read. -/
theorem rowFrameJudged : Obligations.RowFrameJudged := by
  intro s hrun
  refine ⟨fun hs bytes => ?sending, fun hs => ⟨fun bytes hbroken => ?broken,
    fun origin dest kind data check hdata => ?whole⟩⟩ <;> rw [exec_rowFrameReceived_eq hrun]
  case sending => rw [RowLine.receive_of_sending hs]
  case broken => rw [RowLine.receive_of_silent hs (judgeRow_of_broken hbroken)]
  case whole =>
    have hjudge := judgeRow_rowFrame (origin := origin) (dest := dest) (kind := kind) (check := check) hdata
    congr 2
    split
    next hcheck => exact RowLine.receive_of_silent hs (by rw [hjudge, if_pos hcheck])
    next hcheck =>
      rw [if_neg hcheck] at hjudge
      split
      next hdest => exact RowLine.receive_of_silent hs (by rw [hjudge, if_pos hdest])
      next hdest =>
        rw [if_neg hdest] at hjudge
        cases ho : stationOf origin with
        | none => exact RowLine.receive_of_refused hs (hjudge.trans (rowVerdict_of_no_station ho))
        | some i =>
          cases hm : rowMsgOf kind data with
          | none => exact RowLine.receive_of_refused hs (hjudge.trans (rowVerdict_of_no_message hm))
          | some m => exact RowLine.receive_of_accepted hs (hjudge.trans (rowVerdict_of_read ho hm))

end Sys2Proof.Machine

/-! # The row line (08): the layouts of row and link frames -/

namespace Sys2Proof.Machine

/-! ## Station numbers -/

/-- A station byte names station `i` when it holds its number (R190). -/
theorem stationOf_eq_some_iff {b : Byte} {i : StationId} : stationOf b = some i ↔ b = code (i.val + 1) := by
  constructor
  · intro h
    unfold stationOf at h
    split at h
    next hrange =>
      cases h
      rw [Nat.sub_add_cancel hrange.1, code_toNat]
    next => cases h
  · rintro rfl
    exact stationOf_code i

/-! ## Row frames read -/

theorem lowBytes_one (n : Nat) : lowBytes 1 n = [code n] := by simp [lowBytes, code]

theorem lowBytes_two (n : Nat) : lowBytes 2 n = twoBytes n := by simp [lowBytes, code, twoBytes]

theorem lowBytes_four (n : Nat) : lowBytes 4 n = fourBytes n := by simp [lowBytes, code, fourBytes]

/-- A byte is known by its number. -/
theorem Byte.eq_code_of_toNat {b : Byte} {n : Nat} (h : b.toNat = n) : b = code n := by rw [← h, code_toNat]

/-- R159: a count byte and packed digits read as the NUMBER they lay out. -/
theorem unpackDigits_eq_some_iff_of_packed {count : Byte} {packed : List Byte} (hlen : packed.length = (count.toNat + 1) / 2)
    (ds : List Digit) :
    unpackDigits count.toNat packed = some ds ↔ ds.length = count.toNat ∧ packed = packDigits ds := by
  rw [unpackDigits_eq_some_iff (by omega)]
  refine and_congr_right fun hcount => ?_
  rw [packDigits_length, hcount, hlen, Nat.sub_self, List.replicate_zero, List.append_nil]

/-- R150 steps 5 and 6: what is read as a station's frame is its layout. -/
theorem RowInMsg.wire_of_read {kind : Byte} {data : List Byte} {m : RowInMsg} (h : rowMsgOf kind data = some m) :
    m.Fits ∧ (kind, data) = m.wire := by
  unfold rowMsgOf at h
  generalize hkind : kind.toNat = k at h
  match k, data, h with
  | 1, [s0, s1, s2, s3, b0, b1, u0, u1], h =>
    cases h
    refine ⟨⟨readNat_two_lt b0 b1, readNat_two_lt u0 u1⟩, ?_⟩
    rw [RowInMsg.wire, Byte.eq_code_of_toNat hkind, lowBytes_four, lowBytes_two, lowBytes_two, twoBytes_readNat,
      twoBytes_readNat, ← (fourBytes_eq_iff (s0 ++ s1 ++ s2 ++ s3) s0 s1 s2 s3).2 rfl]
    rfl
  | 2, [], h => cases h; exact ⟨trivial, by rw [Byte.eq_code_of_toNat hkind]; rfl⟩
  | 3, count :: packed, h =>
    obtain ⟨⟨hone, hmax, hlen⟩, hread⟩ := Option.ite_none_right_eq_some.1 h
    obtain ⟨ds, hds, rfl⟩ := Option.map_eq_some_iff.1 hread
    obtain ⟨hcount, rfl⟩ := (unpackDigits_eq_some_iff_of_packed hlen ds).1 hds
    refine ⟨⟨hcount ▸ hone, hcount ▸ hmax⟩, ?_⟩
    rw [RowInMsg.wire, digitString, Byte.eq_code_of_toNat hkind, hcount, code_toNat]
    rfl
  | 4, [], h => cases h; exact ⟨trivial, by rw [Byte.eq_code_of_toNat hkind]; rfl⟩
  | 5, [tag, b0, b1, n0, n1], h =>
    cases h
    refine ⟨⟨tag.isLt, readNat_two_lt b0 b1, readNat_two_lt n0 n1⟩, ?_⟩
    rw [RowInMsg.wire, Byte.eq_code_of_toNat hkind, lowBytes_one, lowBytes_two, lowBytes_two, twoBytes_readNat,
      twoBytes_readNat, code_toNat]
    rfl
  | 0, _, h => cases h
  | n + 6, _, h => cases h

/-- R150 steps 5 and 6: the layout of a station's frame within its limits is read. -/
theorem RowInMsg.read_wire {m : RowInMsg} (h : m.Fits) : rowMsgOf m.wire.1 m.wire.2 = some m := by
  cases m with
  | cardIn x batch units =>
    obtain ⟨hbatch, hunits⟩ := h
    simp only [RowInMsg.wire, lowBytes_four, lowBytes_two]
    show some (RowInMsg.cardIn _ (readNat (twoBytes batch)) (readNat (twoBytes units))) = _
    rw [(fourBytes_eq_iff x _ _ _ _).1 rfl, readNat_twoBytes hbatch, readNat_twoBytes hunits]
  | cardOut => rfl
  | number ds =>
    obtain ⟨hone, hmax⟩ := h
    have hcount : (code ds.length).toNat = ds.length := toNat_code (by omega)
    have hlen : (packDigits ds).length = ((code ds.length).toNat + 1) / 2 := by rw [packDigits_length, hcount]
    have hread := (unpackDigits_eq_some_iff_of_packed hlen ds).2 ⟨hcount.symm, rfl⟩
    show (if _ then _ else none) = _
    rw [if_pos ⟨by omega, by omega, hlen⟩, hread]
    rfl
  | hookOn => rfl
  | burnReport tag burned now =>
    obtain ⟨htag, hburned, hnow⟩ := h
    simp only [RowInMsg.wire, lowBytes_one, lowBytes_two]
    show some (RowInMsg.burnReport (code tag).toNat (readNat (twoBytes burned)) (readNat (twoBytes now))) = _
    rw [toNat_code htag, readNat_twoBytes hburned, readNat_twoBytes hnow]

/-! ## Link frames read -/

/-- R164 steps 4 to 6: what is read as an exchange's frame is its layout. -/
theorem LinkInMsg.wire_of_read {kind station : Byte} {data : List Byte} {m : LinkInMsg}
    (h : linkMsgOf kind station data = some m) : (kind, station, data) = m.wire := by
  unfold linkMsgOf at h
  split at h
  next hkind =>
    obtain ⟨i, hi, rfl⟩ := Option.map_eq_some_iff.1 h
    rw [Byte.eq_code_of_toNat hkind, stationOf_eq_some_iff.1 hi]
    rfl
  next hkind =>
    obtain ⟨i, hi, rfl⟩ := Option.map_eq_some_iff.1 h
    rw [Byte.eq_code_of_toNat hkind, stationOf_eq_some_iff.1 hi]
    rfl
  next hkind =>
    obtain ⟨i, hi, rfl⟩ := Option.map_eq_some_iff.1 h
    rw [Byte.eq_code_of_toNat hkind, stationOf_eq_some_iff.1 hi]
    rfl
  next hkind =>
    obtain ⟨rfl, hm⟩ := Option.ite_none_right_eq_some.1 h
    cases hm
    rw [Byte.eq_code_of_toNat hkind]
    rfl
  next hkind =>
    obtain ⟨rfl, hm⟩ := Option.ite_none_right_eq_some.1 h
    cases hm
    rw [Byte.eq_code_of_toNat hkind]
    rfl
  next => cases h

/-- R164 steps 4 to 6: the layout of an exchange's frame is read. -/
theorem LinkInMsg.read_wire (m : LinkInMsg) : linkMsgOf m.wire.1 m.wire.2.1 m.wire.2.2 = some m := by
  cases m with
  | callAnswered i => exact congrArg (Option.map _) (stationOf_code i)
  | callClear i x => exact congrArg (Option.map _) (stationOf_code i)
  | callReleased i => exact congrArg (Option.map _) (stationOf_code i)
  | clock c => rfl
  | mgmtRequest name ref data => rfl

/-! ## Codes and checks -/

/-- 11.4. -/
theorem EndCause.code_of_mem : ∀ p ∈ endCauseCodes, p.1.code = p.2 := by decide

theorem Status.code_of_mem : ∀ p ∈ statusCodes, p.1.code = p.2 := by decide

theorem CallRefusal.code_of_mem : ∀ p ∈ callRefusalCodes, p.1.code = p.2 := by decide

/-- R160: a refusal but BARRED is its reason code alone. -/
theorem RowMsg.data_cardRefused_of_mem : ∀ p ∈ cardRefusalCodes, (RowMsg.cardRefused p.1).data = [p.2] := by decide

/-- R191: the polynomial is taken when the bit shifted out differs from the message bit. -/
theorem crcBit_eq {w : Nat} (poly : BitVec w) :
    crcBit poly = fun (reg : BitVec w) (bit : Bool) => if reg.msb = bit then reg <<< 1 else (reg <<< 1) ^^^ poly := by
  funext reg bit
  by_cases h : reg.msb = bit <;> simp [crcBit, h]

/-- R191: one byte more is shifted in bit by bit, the most significant bit first. -/
theorem crc_append_byte {w : Nat} (poly init : BitVec w) (bytes : List Byte) (b : Byte) :
    crc poly init (bytes ++ [b]) = (bitsOf b).foldl (crcBit poly) (crc poly init bytes) := by
  simp only [crc, List.flatMap_append, List.flatMap_singleton, List.foldl_append]

/-- Settles O7: each reader by the layouts it reads, each frame sent by its kind. -/
theorem frameLayouts : Obligations.FrameLayouts := by
  refine ⟨fun kind data m => ⟨RowInMsg.wire_of_read, fun ⟨hfits, hwire⟩ => ?rowRead⟩,
    fun kind station data m => ⟨LinkInMsg.wire_of_read, fun hwire => ?linkRead⟩, fun f => rfl,
    fun m => ⟨_, _, rfl, BitVec.extractLsb'_append_extractLsb'⟩, rfl, fun i => rfl,
    ⟨fun units hunits => ⟨rfl, wireNat_two units hunits⟩, fun c => ⟨rfl, rfl⟩,
      fun p hp => ⟨rfl, RowMsg.data_cardRefused_of_mem p hp⟩,
      fun p hp => ⟨rfl, congrArg (fun c => [c]) (CallRefusal.code_of_mem p hp)⟩, ⟨rfl, rfl⟩,
      fun tag x units htag hunits => ⟨rfl, ?burn⟩, ⟨⟨rfl, rfl⟩, ⟨rfl, rfl⟩, ⟨rfl, rfl⟩⟩,
      fun p hp => ⟨rfl, congrArg (fun c => [c]) (EndCause.code_of_mem p hp)⟩, fun b => ⟨rfl, rfl⟩,
      ⟨⟨rfl, rfl⟩, ⟨rfl, rfl⟩⟩, ⟨rfl, rfl⟩, ⟨rfl, rfl⟩⟩,
    fun i digits => rfl, ⟨rfl, fun d => rfl, fun d e l => rfl⟩,
    fun i => ⟨fun p hp => ?callClear, fun b => rfl, rfl, rfl⟩, fun name ref body p hp => ?reply,
    fun w poly init => ⟨rfl, fun bytes b => ?check⟩, fun bytes => ⟨rfl, rfl⟩, by decide, by decide, by decide, by decide⟩
  case rowRead =>
    obtain ⟨rfl, rfl⟩ := Prod.mk.inj hwire
    exact RowInMsg.read_wire hfits
  case linkRead =>
    obtain ⟨rfl, hrest⟩ := Prod.mk.inj hwire
    obtain ⟨rfl, rfl⟩ := Prod.mk.inj hrest
    exact m.read_wire
  case burn =>
    show wireNat 1 tag ++ wireNat 4 x.toNat ++ wireNat 2 units = _
    rw [wireNat_one tag htag, wireNat_serial, wireNat_two units hunits]
  case callClear =>
    rw [← EndCause.code_of_mem p hp]
    rfl
  case reply =>
    rw [← Status.code_of_mem p hp]
    rfl
  case check =>
    rw [crc_append_byte, crcBit_eq]
    rfl

end Sys2Proof.Machine

/-! # The exchange link (09): the judgement of a link frame -/

namespace Sys2Proof.Machine

/-! ## The bytes of a whole frame -/

section
variable {kind station high low : Byte} {data : List Byte}

/-- R163: whole are the bytes that go as far as their length field says, at most 48 data bytes. -/
theorem exists_linkFrame_of_length {len : Byte} {rest : List Byte} (hlen : len.toNat ≤ 48)
    (hrest : rest.length = len.toNat + 2) :
    ∃ data high low, data.length ≤ 48 ∧ kind :: station :: len :: rest = linkFrame kind station data high low := by
  have hdata : (rest.take len.toNat).length = len.toNat := List.length_take_of_le (by omega)
  obtain ⟨high, low, hcheck⟩ : ∃ high low, rest.drop len.toNat = [high, low] :=
    List.length_eq_two.1 (by rw [List.length_drop]; omega)
  refine ⟨rest.take len.toNat, high, low, by omega, ?_⟩
  rw [linkFrame, hdata, code_toNat, ← hcheck, List.append_assoc, List.take_append_drop]
  rfl

/-- R164 step 1: bytes that are no whole frame are broken. -/
theorem judgeLink_of_broken {bytes : List Byte}
    (h : ¬∃ kind station data high low, data.length ≤ 48 ∧ bytes = linkFrame kind station data high low) :
    judgeLink bytes = .notValid := by
  unfold judgeLink
  split
  next kind station len rest =>
    exact if_pos fun ⟨hlen, hrest⟩ => h ⟨kind, station, exists_linkFrame_of_length hlen hrest⟩
  next => rfl

/-- R164 steps 2 to 6 of a whole frame: the check value, and what the rest says. -/
theorem judgeLink_linkFrame (hdata : data.length ≤ 48) : judgeLink (linkFrame kind station data high low) =
    if high ++ low ≠ linkCheck ([kind, station, code data.length] ++ data) then .notValid
    else (linkMsgOf kind station data).elim .discarded .accepted := by
  have hlen : (code data.length).toNat = data.length := toNat_code (by omega)
  have hhigh : (data ++ [high, low]).getD data.length 0 = high := by simp
  have hlow : (data ++ [high, low]).getD (data.length + 1) 0 = low := by simp
  have hcovered : (linkFrame kind station data high low).take (3 + data.length)
      = [kind, station, code data.length] ++ data := List.take_left' (by simp; omega)
  rw [linkFrame] at hcovered ⊢
  simp only [List.cons_append, List.nil_append] at hcovered ⊢
  simp only [judgeLink, hlen, hhigh, hlow, hcovered, List.take_left, List.length_append, List.length_cons, List.length_nil,
    hdata, and_self, not_true_eq_false, if_false, ne_comm (a := high ++ low)]
  cases linkMsgOf kind station data <;> rfl

end

/-! ## The link and its queue -/

section
variable {x : ExchangeLink} {bytes : List Byte}

/-- R164 steps 1 and 2. -/
theorem ExchangeLink.receive_of_notValid (hj : judgeLink bytes = .notValid) : x.receive bytes = x := by
  rw [ExchangeLink.receive, hj]

/-- R164 step 3, then one of steps 4 to 6. -/
theorem ExchangeLink.receive_of_discarded (hj : judgeLink bytes = .discarded) :
    x.receive bytes = { x with link := .up, silence := some 300 } := by
  rw [ExchangeLink.receive, hj]
  rfl

/-- R164 step 3, then steps 7 and 8. -/
theorem ExchangeLink.receive_of_accepted {m : LinkInMsg} (hj : judgeLink bytes = .accepted m) : x.receive bytes =
    { x with link := .up, silence := some 300,
             inbound := if x.inbound.length < 32 then x.inbound ++ [m] else x.inbound } := by
  rw [ExchangeLink.receive, hj]
  show (if x.inbound.length < 32 then _ else _) = _
  split <;> rfl

end

theorem exec_linkFrameReceived_eq {s : State} (hrun : s.running = true) (bytes : List Byte) :
    exec (.linkFrameReceived bytes) s = .next { s with xlc := s.xlc.receive bytes }.refreshAttn := by
  rw [show exec (.linkFrameReceived bytes) s = whenRunning (State.linkReceived bytes) s from rfl,
    whenRunning_of_running _ s hrun, State.linkReceived]

/-- Settles O33: step by step of R164, and after step 3 by the message that was read. -/
theorem linkFrameJudged : Obligations.LinkFrameJudged := by
  intro s hrun
  refine ⟨fun bytes hbroken => ?broken, fun kind station data high low hdata => ?whole⟩ <;>
    rw [exec_linkFrameReceived_eq hrun]
  case broken => rw [ExchangeLink.receive_of_notValid (judgeLink_of_broken hbroken)]
  case whole =>
    have hjudge := judgeLink_linkFrame (kind := kind) (station := station) (high := high) (low := low) hdata
    split
    next hcheck => rw [ExchangeLink.receive_of_notValid (by rw [hjudge, if_pos hcheck])]
    next hcheck =>
      rw [if_neg hcheck] at hjudge
      cases hm : linkMsgOf kind station data with
      | none => rw [ExchangeLink.receive_of_discarded (by rw [hjudge, hm]; rfl)]
      | some m => rw [ExchangeLink.receive_of_accepted (by rw [hjudge, hm]; rfl)]

end Sys2Proof.Machine

/-! # In-band management (10): a request taken, executed and answered -/

namespace Sys2Proof.Machine

/-! ## A request at the head of the queue -/

section
variable {s : State} {name ref : Byte} {data : List Byte} {rest : List LinkInMsg}
  (hhead : s.xlc.inbound = .mgmtRequest name ref data :: rest)
include hhead

/-- R165: the head leaves the inbound queue. -/
theorem State.takeLink_of_head : s.takeLink = some (.mgmtRequest name ref data, s.linkTaken rest) := by
  rw [State.takeLink, hhead]; rfl

/-- R177: a request taken under its name is executed, and its reply offered. -/
theorem whenRunning_runRequest_of_head (hrun : s.running = true) (handle : List Byte → State → Answer) :
    whenRunning (State.runRequest name handle) s = .next ((handle data (s.linkTaken rest)).send name ref) := by
  rw [whenRunning_of_running _ s hrun, State.runRequest, State.takeLink_of_head hhead]
  simp only [if_true]

/-- R178 step 1: a request of no known name is answered UNKNOWN. -/
theorem whenRunning_runUnknown_of_head (hrun : s.running = true) (hname : knownName name = false) :
    whenRunning State.runUnknown s = .next ((refuse .unknown (s.linkTaken rest)).send name ref) := by
  rw [whenRunning_of_running _ s hrun, State.runUnknown, State.takeLink_of_head hhead]
  simp only [hname, Bool.false_eq_true, if_false]

end

/-- R178 step 1: the names outside 01h to 0Ch. -/
theorem knownName_eq_false {name : Byte} (h : name = 0 ∨ 0x0C < name) : knownName name = false := by
  refine decide_eq_false fun ⟨hlow, hhigh⟩ => ?_
  obtain rfl | h := h
  · exact absurd hlow (by decide)
  · exact absurd (BitVec.lt_def.1 h) (Nat.not_lt.2 hhigh)

/-! ## Requests of the wrong length -/

section
variable (s : State) (data : List Byte)

/-- R178 step 2: the requests that take three bytes. -/
theorem three_byte_requests_of_length (h : data.length ≠ 3) :
    selectPage data s = refuse .length s ∧ setStation data s = refuse .length s := by
  match data, h with
  | [], _ | [_], _ | [_, _], _ | _ :: _ :: _ :: _ :: _, _ => exact ⟨rfl, rfl⟩
  | [_, _, _], h => exact absurd rfl h

/-- R178 step 2: the requests that take one byte. -/
theorem one_byte_requests_of_length (h : data.length ≠ 1) :
    readEntries data s = refuse .length s ∧ activateBank data s = refuse .length s ∧
      setService data s = refuse .length s ∧ readStation data s = refuse .length s ∧
      fetchRecord data s = refuse .length s := by
  match data, h with
  | [], _ | _ :: _ :: _, _ => exact ⟨rfl, rfl, rfl, rfl, rfl⟩
  | [_], h => exact absurd rfl h

/-- R178 step 2: the requests that take no data. -/
theorem empty_requests_of_length (h : data.length ≠ 0) :
    readStatus data s = refuse .length s ∧ restartLine data s = refuse .length s := by
  match data, h with
  | _ :: _, _ => exact ⟨rfl, rfl⟩
  | [], h => exact absurd rfl h

/-- R178 step 2: the requests that take four bytes. -/
theorem four_byte_requests_of_length (h : data.length ≠ 4) :
    releaseRecords data s = refuse .length s ∧ removeAutobar data s = refuse .length s := by
  match data, h with
  | [], _ | [_], _ | [_, _], _ | [_, _, _], _ | _ :: _ :: _ :: _ :: _ :: _, _ => exact ⟨rfl, rfl⟩
  | [_, _, _, _], h => exact absurd rfl h

/-- R178 step 2: entries whose bytes do not agree with the count and the entry size of the page. -/
theorem writeEntries_of_length {n : Byte} {bytes : List Byte} (h : bytes.length ≠ n.toNat * s.mu.selector.entrySize) :
    writeEntries (n :: bytes) s = refuse .length s := if_pos h

end

/-- Settles O40: each command runs the request of its name at the head; a request of the wrong length is refused unexecuted. -/
theorem everyRequestAnsweredOnce : Obligations.EveryRequestAnsweredOnce := by
  intro s ref data rest hrun head answered s1 wrong
  have known : ∀ {name : Byte} (handle : List Byte → State → Answer), head name →
      whenRunning (State.runRequest name handle) s = .next ((handle data s1).send name ref) :=
    fun handle hhead => whenRunning_runRequest_of_head hhead hrun handle
  exact ⟨known selectPage, known writeEntries, known readEntries, known activateBank, known setService, known setStation,
    known readStation, known readStatus, known fetchRecord, known releaseRecords, known removeAutobar, known restartLine,
    fun _ hname hhead => whenRunning_runUnknown_of_head hhead hrun (knownName_eq_false hname),
    three_byte_requests_of_length s1 data, one_byte_requests_of_length s1 data, empty_requests_of_length s1 data,
    four_byte_requests_of_length s1 data, fun hnone => hnone ▸ rfl,
    fun _ _ hdata hlength => hdata ▸ writeEntries_of_length s1 hlength⟩

end Sys2Proof.Machine

/-! # In-band management (10): the page selector -/

namespace Sys2Proof.Machine

/-! ## The combinations of the table -/

/-- R179: the combinations of table, bank and page that SELECT_PAGE allows. -/
def PageAllowed (table bank page : Byte) : Prop :=
  (table = 1 ∧ bank = 0 ∧ page < 32) ∨ (table = 3 ∧ (bank = 1 ∨ bank = 2) ∧ page < 8) ∨
    ((table = 2 ∨ table = 6) ∧ bank = 0 ∧ page = 0) ∨ ((table = 4 ∨ table = 5) ∧ (bank = 1 ∨ bank = 2) ∧ page = 0)

/-- 11.4: the byte of a bank names it. -/
theorem bankOf_of_named {bank : Byte} (h : bank = 1 ∨ bank = 2) :
    bankOf bank.toNat = some (if bank = 1 then .a else .b) := by
  obtain rfl | rfl := h <;> rfl

/-- 11.4: no other byte does. -/
theorem named_of_bankOf {bank : Byte} {x : BankId} (h : bankOf bank.toNat = some x) : bank = 1 ∨ bank = 2 := by
  by_contra hnot
  obtain ⟨ha, hb⟩ := not_or.1 hnot
  exact Option.some_ne_none x (h ▸ bankOf_eq_none ha hb)

theorem selectorOf_hot (k : Fin 32) : selectorOf 1 0 (code k.val) = some (.hot k) := by
  have hpage : (code k.val).toNat = k.val := toNat_code (by omega)
  simp [selectorOf, bankOf, hpage]

theorem selectorOf_prefixes {bank : Byte} {x : BankId} (h : bankOf bank.toNat = some x) (k : Fin 8) :
    selectorOf 3 bank (code k.val) = some (.prefixes x k) := by
  have hpage : (code k.val).toNat = k.val := toNat_code (by omega)
  simp [selectorOf, h, hpage]

theorem selectorOf_bands {bank : Byte} {x : BankId} (h : bankOf bank.toNat = some x) :
    selectorOf 4 bank 0 = some (.bands x) := by
  simp [selectorOf, h]

theorem selectorOf_calendar {bank : Byte} {x : BankId} (h : bankOf bank.toNat = some x) :
    selectorOf 5 bank 0 = some (.calendar x) := by
  simp [selectorOf, h]

/-- R179: what selects a page is a combination of the table. -/
theorem pageAllowed_of_selectorOf {table bank page : Byte} {sel : Selector} (h : selectorOf table bank page = some sel) :
    PageAllowed table bank page := by
  unfold selectorOf at h
  split at h
  next htable _ =>
    split_ifs at h with hpage hbank
    exact .inl ⟨BitVec.eq_of_toNat_eq htable, hbank, BitVec.lt_def.2 hpage⟩
  next htable _ =>
    split_ifs at h with hnone
    exact .inr (.inr (.inl ⟨.inl (BitVec.eq_of_toNat_eq htable), hnone⟩))
  next htable hbank =>
    split_ifs at h with hpage
    exact .inr (.inl ⟨BitVec.eq_of_toNat_eq htable, named_of_bankOf hbank, BitVec.lt_def.2 hpage⟩)
  next htable hbank =>
    split_ifs at h with hpage
    exact .inr (.inr (.inr ⟨.inl (BitVec.eq_of_toNat_eq htable), named_of_bankOf hbank, hpage⟩))
  next htable hbank =>
    split_ifs at h with hpage
    exact .inr (.inr (.inr ⟨.inr (BitVec.eq_of_toNat_eq htable), named_of_bankOf hbank, hpage⟩))
  next htable _ =>
    split_ifs at h with hnone
    exact .inr (.inr (.inl ⟨.inr (BitVec.eq_of_toNat_eq htable), hnone⟩))
  next => cases h

/-! ## SELECT_PAGE -/

/-- R179: an allowed combination sets the selector and puts the pointer back. -/
theorem selectPage_of_some (s : State) {table bank page : Byte} {sel : Selector} (h : selectorOf table bank page = some sel) :
    selectPage [table, bank, page] s =
      ⟨.done, .nothing, { s with mu := { s.mu with selector := sel, pointer := 0 } }⟩ := by
  simp only [selectPage, h]

/-- R179: any other combination changes nothing. -/
theorem selectPage_of_not_allowed (s : State) {table bank page : Byte} (h : ¬PageAllowed table bank page) :
    selectPage [table, bank, page] s = ⟨.range, .nothing, s⟩ := by
  have hnone : selectorOf table bank page = none :=
    Option.eq_none_iff_forall_ne_some.2 fun _ hsome => h (pageAllowed_of_selectorOf hsome)
  simp only [selectPage, hnone, refuse]

/-- Settles O41: row by row of the table of R179, what it leaves out being refused. -/
theorem pageSelected : Obligations.PageSelected := by
  refine ⟨fun s table bank page => ?_, fun _ => ⟨rfl, fun _ => rfl⟩, fun _ _ => ⟨rfl, fun _ => rfl⟩, ⟨rfl, rfl⟩,
    fun _ => ⟨rfl, rfl⟩, fun _ => ⟨rfl, rfl, fun _ => ⟨rfl, rfl⟩⟩⟩
  refine ⟨?hot, ?batch, ?prefixes, ?bands, ?calendar, ?autobar, selectPage_of_not_allowed s⟩
  case hot => rintro rfl rfl k rfl; exact selectPage_of_some s (selectorOf_hot k)
  case batch => rintro rfl rfl rfl; exact selectPage_of_some s rfl
  case prefixes => rintro rfl hbank k rfl; exact selectPage_of_some s (selectorOf_prefixes (bankOf_of_named hbank) k)
  case bands => rintro rfl hbank rfl; exact selectPage_of_some s (selectorOf_bands (bankOf_of_named hbank))
  case calendar => rintro rfl hbank rfl; exact selectPage_of_some s (selectorOf_calendar (bankOf_of_named hbank))
  case autobar => rintro rfl rfl rfl; exact selectPage_of_some s rfl

end Sys2Proof.Machine

/-! # In-band management (10): entries written and read from the pointer on -/

namespace Sys2Proof.Machine

/-! ## A request's bytes cut into entries -/

/-- The first entry is cut off, and the rest is cut on. -/
theorem splitEntries_append {size : Nat} {entry : List Byte} (h : entry.length = size) (n : Nat) (bytes : List Byte) :
    splitEntries size (n + 1) (entry ++ bytes) = entry :: splitEntries size n bytes := by
  rw [splitEntries, List.take_left' h, List.drop_left' h]

/-! ## A refused entry changes nothing -/

section
variable (s : State)

theorem State.writeHot_of_refused (k : Nat) (e : EntryRead HotRange) :
    (s.writeHot k e).1 ≠ .done → (s.writeHot k e).2 = s := by
  unfold State.writeHot
  dsimp only
  split
  next => exact fun _ => rfl
  next => exact fun hrefused => absurd rfl hrefused
  next =>
    split
    next => exact fun _ => rfl
    next => exact fun hrefused => absurd rfl hrefused

theorem State.writeBatch_of_refused (k : Nat) (e : EntryRead BatchEntry) :
    (s.writeBatch k e).1 ≠ .done → (s.writeBatch k e).2 = s := by
  unfold State.writeBatch
  dsimp only
  split
  next => exact fun _ => rfl
  next => exact fun hrefused => absurd rfl hrefused
  next =>
    split
    next => exact fun _ => rfl
    next => exact fun hrefused => absurd rfl hrefused

theorem State.writeBank_of_refused {α : Type} (x : BankId) (e : EntryRead α) (repeats : Bank → α → Bool)
    (store : Option α → Bank → Bank) :
    (s.writeBank x e repeats store).1 ≠ .done → (s.writeBank x e repeats store).2 = s := by
  unfold State.writeBank
  dsimp only
  split
  next => exact fun _ => rfl
  next =>
    split
    next => exact fun _ => rfl
    next => exact fun hrefused => absurd rfl hrefused
    next =>
      split
      next => exact fun _ => rfl
      next => exact fun hrefused => absurd rfl hrefused

/-- R181: whichever block judges the entry. -/
theorem State.writeEntry_of_refused (bytes : List Byte) : (s.writeEntry bytes).1 ≠ .done → (s.writeEntry bytes).2 = s := by
  cases hsel : s.mu.selector with
  | hot page => rw [State.writeEntry_hot hsel]; exact s.writeHot_of_refused _ _
  | batch => rw [State.writeEntry_batch hsel]; exact s.writeBatch_of_refused _ _
  | prefixes x page => rw [State.writeEntry_prefixes hsel]; exact s.writeBank_of_refused x _ _ _
  | bands x => rw [State.writeEntry_bands hsel]; exact s.writeBank_of_refused x _ _ _
  | calendar x => rw [State.writeEntry_calendar hsel]; exact s.writeBank_of_refused x _ _ _
  | autobar => rw [State.writeEntry_autobar hsel]; exact fun _ => rfl

end

/-! ## Entries written in order -/

section
variable {s t : State} {entry : List Byte} (es : List (List Byte)) (k : Nat)

/-- R180: past an entry written, the pointer advances and the next entry is judged. -/
theorem State.writeAll_of_done (h : s.writeEntry entry = (.done, t)) :
    s.writeAll (entry :: es) k = t.advancePointer.writeAll es (k + 1) := by
  rw [State.writeAll, h]

/-- R180: the first refusal ends the request with its status, and what was offered changes nothing. -/
theorem State.writeAll_of_refused {st : Status} (h : s.writeEntry entry = (st, t)) (hst : st ≠ .done) :
    t = s ∧ s.writeAll (entry :: es) k = ⟨st, .written k, s⟩ := by
  have hsame : t = s := by simpa only [h] using s.writeEntry_of_refused entry (by rwa [h])
  refine ⟨hsame, ?_⟩
  unfold State.writeAll
  split
  next hdone => exact absurd (congrArg Prod.fst (h.symm.trans hdone)) hst
  next hother => cases h.symm.trans hother; rw [hsame]

end

/-! ## The count of a request -/

section
variable (s : State) {n : Byte}

/-- R178 step 3: a count of 0, or above 4. -/
theorem writeEntries_of_count_out {bytes : List Byte} (hlength : bytes.length = n.toNat * s.mu.selector.entrySize)
    (hcount : n.toNat = 0 ∨ 4 < n.toNat) : writeEntries (n :: bytes) s = ⟨.range, .nothing, s⟩ := by
  rw [writeEntries, if_neg (not_not.2 hlength), if_pos (by omega), refuse]

theorem writeEntries_of_count {bytes : List Byte} (hlength : bytes.length = n.toNat * s.mu.selector.entrySize)
    (hlow : 1 ≤ n.toNat) (hhigh : n.toNat ≤ 4) :
    writeEntries (n :: bytes) s = s.writeAll (splitEntries s.mu.selector.entrySize n.toNat bytes) 0 := by
  rw [writeEntries, if_neg (not_not.2 hlength), if_neg (not_not.2 ⟨hlow, hhigh⟩)]

theorem readEntries_of_count_out (hcount : n.toNat = 0 ∨ 4 < n.toNat) : readEntries [n] s = ⟨.range, .nothing, s⟩ := by
  rw [readEntries, if_neg (by omega), refuse]

theorem readEntries_of_count (hlow : 1 ≤ n.toNat) (hhigh : n.toNat ≤ 4) :
    readEntries [n] s = ⟨.done, .entries (s.readAll n.toNat).1, (s.readAll n.toNat).2⟩ := by
  rw [readEntries, if_pos ⟨hlow, hhigh⟩]

end

/-! ## The entry at the pointer -/

/-- R182: the entry read is the one that the page's table holds in the slot at the pointer. -/
theorem State.readEntry_of_selector (s : State) (sel : Selector) : s.mu.selector = sel → s.readEntry =
    match sel with
    | .hot _ => .hot (SlotTable.read s.slotAtPointer s.ct.hot)
    | .batch => .batch (SlotTable.read s.slotAtPointer s.ct.batches)
    | .prefixes x _ => .prefixes (SlotTable.read s.slotAtPointer (s.bank x).prefixes)
    | .bands x => .bands (SlotTable.read s.slotAtPointer (s.bank x).bands)
    | .calendar x => .calendar (SlotTable.read s.slotAtPointer (s.bank x).calendar)
    | .autobar => .autobar s.ct.autobar[s.slotAtPointer]? := by
  rintro rfl; rfl

/-- Settles O42: the count decides whether a request is executed; each entry written or read moves the pointer on, and a
refused one ends the request. -/
theorem pointerWalksThePage : Obligations.PointerWalksThePage := by
  refine ⟨⟨fun _ => rfl, rfl, fun _ _ => rfl, fun _ => ⟨rfl, rfl⟩, rfl⟩,
    ⟨fun _ _ => rfl, fun _ n _ bytes h => splitEntries_append h n bytes⟩, fun s => ?_⟩
  exact ⟨fun _ _ => writeEntries_of_count_out s, fun _ _ => writeEntries_of_count s, fun _ => rfl,
    fun _ es k _ => State.writeAll_of_done es k,
    fun _ es k _ _ => State.writeAll_of_refused es k,
    fun _ => readEntries_of_count_out s, fun _ => readEntries_of_count s, rfl, fun _ => rfl,
    fun page => s.readEntry_of_selector (.hot page), s.readEntry_of_selector .batch, s.readEntry_of_selector .autobar,
    fun x => ⟨fun page => s.readEntry_of_selector (.prefixes x page), s.readEntry_of_selector (.bands x),
      s.readEntry_of_selector (.calendar x)⟩⟩

end Sys2Proof.Machine

/-! # The machine (00): every command answers a next state, and no command touches the commands that wait -/

namespace Sys2Proof.Machine

/-! ## The remaining operations that leave the still blocks alone -/

/-- The waiting commands are among the still blocks. -/
theorem State.pending_of_still {s t : State} (h : t.still = s.still) : t.pending = s.pending := by
  obtain ⟨_, _, _, _, _, hpending⟩ := (s.still_iff t).1 h
  exact hpending

/-- R144: ATTN follows the conditions, and is a pin. -/
theorem State.refreshAttn_pending_of_still {s t : State} (h : t.still = s.still) : t.refreshAttn.pending = s.pending :=
  t.refreshAttn_pending.trans (State.pending_of_still h)

section
variable (s : State) (i : StationId)

@[simp] theorem State.barIfCovered_still (h : HotRange) : (State.barIfCovered h s i).still = s.still := by
  unfold State.barIfCovered; split <;> simp

/-- R74: every station's part leaves them alone, and so does the whole. -/
@[simp] theorem State.barRange_still (h : HotRange) : (s.barRange h).still = s.still :=
  foldl_stationIds_keeps State.still (State.barIfCovered_still · · h) s

/-- R75, R76: a third strike also bars the card where it is ACTIVE. -/
@[simp] theorem State.countStrike_still (x : Serial) : (s.countStrike x).still = s.still := by
  unfold State.countStrike
  dsimp only
  split
  next =>
    split
    next =>
      split
      next => exact State.barCard_still _ _ _ _
      next => rfl
    next => rfl
  next => rfl

@[simp] theorem State.judgeCard_still (x : Serial) (batch units : Nat) : (s.judgeCard i x batch units).still = s.still := by
  unfold State.judgeCard
  split
  next => simp
  next => split <;> simp

@[simp] theorem State.cardOut_still : (s.cardOut i).still = s.still := by
  unfold State.cardOut; split <;> simp

@[simp] theorem State.putInService_still : (s.putInService i).still = s.still := by
  unfold State.putInService; split <;> rfl

@[simp] theorem State.setMode_still (k : Nat) (m : Mode) : (s.setMode i k m).still = s.still := by
  unfold State.setMode; dsimp only; split <;> simp

@[simp] theorem State.exchangeClears_still (x : Byte) : (s.exchangeClears i x).still = s.still := by
  unfold State.exchangeClears; split <;> simp

@[simp] theorem State.exchangeReleases_still : (s.exchangeReleases i).still = s.still := by
  unfold State.exchangeReleases; split <;> simp

/-- R156: the head leaves the queue, and a BURN frame goes to the DE. -/
@[simp] theorem State.headDelivered_still (f : RowOutFrame) : (s.headDelivered f).still = s.still := by
  unfold State.headDelivered
  dsimp only
  split
  next => exact State.burnDelivered_still _ _ _
  next => rfl

@[simp] theorem State.headUndelivered_still (f : RowOutFrame) : (s.headUndelivered f).still = s.still := by
  unfold State.headUndelivered
  dsimp only
  split
  next => exact State.burnUndelivered_still _ _ _
  next => rfl

@[simp] theorem State.transmissionFailed_still (f : RowOutFrame) : (s.transmissionFailed f).still = s.still := by
  unfold State.transmissionFailed
  split
  next => rfl
  next => simp

/-- R115, R116: an activation changes banks only. -/
@[simp] theorem State.activate_still (x : BankId) : (s.activate x).2.still = s.still := by
  unfold State.activate
  split
  next => rfl
  next => rfl
  next => rfl
  next => split <;> rfl

@[simp] theorem State.restartStation_still : (s.restartStation i).still = s.still := by
  unfold State.restartStation State.storeRestart
  split <;> rfl

/-- R188: after the stations' parts the card table, the DE and the two lines are restarted. -/
@[simp] theorem State.restartLine_still : s.restartLine.still = s.still := by
  have hstations : (stationIds.foldl State.restartStation s).still = s.still :=
    foldl_stationIds_keeps State.still State.restartStation_still s
  unfold State.restartLine
  generalize stationIds.foldl State.restartStation s = u at hstations
  exact hstations

end

/-! ## Entries written and read -/

section
variable (s : State)

/-- R104. -/
theorem State.writeBank_still {α : Type} (x : BankId) (e : EntryRead α) (repeats : Bank → α → Bool)
    (store : Option α → Bank → Bank) : (s.writeBank x e repeats store).2.still = s.still := by
  unfold State.writeBank
  dsimp only
  split
  next => rfl
  next =>
    split
    next => rfl
    next => rfl
    next => split <;> rfl

/-- R62, R74. -/
theorem State.writeHot_still (k : Nat) (e : EntryRead HotRange) : (s.writeHot k e).2.still = s.still := by
  unfold State.writeHot
  dsimp only
  split
  next => rfl
  next => rfl
  next =>
    split
    next => rfl
    next => rw [State.barRange_still]; rfl

/-- R61. -/
theorem State.writeBatch_still (k : Nat) (e : EntryRead BatchEntry) : (s.writeBatch k e).2.still = s.still := by
  unfold State.writeBatch
  dsimp only
  split
  next => rfl
  next => rfl
  next => split <;> rfl

/-- R181: whatever page is selected. -/
theorem State.writeEntry_still (bytes : List Byte) : (s.writeEntry bytes).2.still = s.still := by
  cases hsel : s.mu.selector with
  | hot page => rw [State.writeEntry_hot hsel, State.writeHot_still]
  | batch => rw [State.writeEntry_batch hsel, State.writeBatch_still]
  | prefixes x page => rw [State.writeEntry_prefixes hsel, State.writeBank_still]
  | bands x => rw [State.writeEntry_bands hsel, State.writeBank_still]
  | calendar x => rw [State.writeEntry_calendar hsel, State.writeBank_still]
  | autobar => rw [State.writeEntry_autobar hsel]

/-- R180: between two entries only the pointer moves. -/
theorem State.writeAll_pending (es : List (List Byte)) (n : Nat) : (s.writeAll es n).state.pending = s.pending := by
  induction es generalizing s n with
  | nil => rfl
  | cons e es ih =>
    have hone := State.pending_of_still (s.writeEntry_still e)
    unfold State.writeAll
    split
    next u heq =>
      rw [heq] at hone
      exact (ih u.advancePointer (n + 1)).trans hone
    next st u _ heq =>
      rw [heq] at hone
      exact hone

/-- R182: a reading moves only the pointer. -/
theorem State.readAll_pending (n : Nat) : (s.readAll n).2.pending = s.pending := by
  induction n generalizing s with
  | zero => rfl
  | succ n ih => exact ih s.advancePointer

end

/-! ## Management requests -/

section
variable (s : State) (data : List Byte)

theorem selectPage_pending : (selectPage data s).state.pending = s.pending := by
  unfold selectPage
  split
  next => split <;> rfl
  next => rfl

theorem writeEntries_pending : (writeEntries data s).state.pending = s.pending := by
  unfold writeEntries
  split
  next => rfl
  next =>
    split_ifs
    · rfl
    · exact s.writeAll_pending _ 0
    · rfl

theorem readEntries_pending : (readEntries data s).state.pending = s.pending := by
  unfold readEntries
  split
  next =>
    split
    next => exact s.readAll_pending _
    next => rfl
  next => rfl

theorem activateBank_pending : (activateBank data s).state.pending = s.pending := by
  unfold activateBank
  split
  next =>
    split
    next => exact State.pending_of_still (s.activate_still _)
    next => rfl
  next => rfl

theorem setService_pending : (setService data s).state.pending = s.pending := by
  unfold setService
  split
  next =>
    split
    next => rfl
    next => split_ifs <;> rfl
  next => rfl

theorem setStation_pending : (setStation data s).state.pending = s.pending := by
  unfold setStation
  split
  next =>
    split
    next =>
      split
      next => exact State.refreshAttn_pending_of_still (s.setMode_still _ _ _)
      next => rfl
    next => rfl
  next => rfl

theorem readStation_pending : (readStation data s).state.pending = s.pending := by
  unfold readStation
  split
  next => split <;> rfl
  next => rfl

theorem readStatus_pending : (readStatus data s).state.pending = s.pending := by
  unfold readStatus; split <;> rfl

theorem fetchRecord_pending : (fetchRecord data s).state.pending = s.pending := by
  unfold fetchRecord
  split
  next =>
    split
    next => rfl
    next => split <;> rfl
  next => rfl

theorem releaseRecords_pending : (releaseRecords data s).state.pending = s.pending := by
  unfold releaseRecords; split <;> rfl

theorem removeAutobar_pending : (removeAutobar data s).state.pending = s.pending := by
  unfold removeAutobar
  split
  next => split <;> rfl
  next => rfl

theorem restartLine_pending : (restartLine data s).state.pending = s.pending := by
  unfold restartLine
  split
  next => exact State.refreshAttn_pending_of_still s.restartLine_still
  next => rfl

end

/-! ## Frames taken -/

section
variable {s : State}

/-- R152: the frame leaves the row inbound queue, and nothing else changes. -/
theorem State.takeRow_still {f : RowInFrame} {u : State} (htake : s.takeRow = some (f, u)) : u.still = s.still := by
  obtain ⟨rest, _, rfl⟩ := State.takeRow_eq_some htake
  rfl

/-- R165: the frame leaves the link inbound queue, and nothing else changes. -/
theorem State.takeLink_still {m : LinkInMsg} {u : State} (htake : s.takeLink = some (m, u)) : u.still = s.still := by
  obtain ⟨rest, _, rfl⟩ := State.takeLink_eq_some htake
  rfl

end

section
variable (s : State)

/-- R177: a request's execution decides, its reply being an offer. -/
theorem State.runRequest_pending (name : Byte) {handle : List Byte → State → Answer}
    (hhandle : ∀ u data, (handle data u).state.pending = u.pending) : (s.runRequest name handle).pending = s.pending := by
  unfold State.runRequest
  split
  next data u htake =>
    split
    next => exact (hhandle u data).trans (State.pending_of_still (State.takeLink_still htake))
    next => rfl
  next => rfl

theorem State.runUnknown_pending : s.runUnknown.pending = s.pending := by
  unfold State.runUnknown
  split
  next htake =>
    split
    next => rfl
    next =>
      have hu := State.pending_of_still (State.takeLink_still htake)
      exact hu
  next => rfl

theorem State.takeCardIn_still : s.takeCardIn.still = s.still := by
  unfold State.takeCardIn
  split
  next htake => rw [State.judgeCard_still, State.takeRow_still htake]
  next => rfl

theorem State.takeCardOut_still : s.takeCardOut.still = s.still := by
  unfold State.takeCardOut
  split
  next htake => rw [State.cardOut_still, State.takeRow_still htake]
  next => rfl

theorem State.takeNumber_still : s.takeNumber.still = s.still := by
  unfold State.takeNumber
  split
  next htake => rw [State.judgeNumber_still, State.takeRow_still htake]
  next => rfl

theorem State.takeHookOn_still : s.takeHookOn.still = s.still := by
  unfold State.takeHookOn
  split
  next htake =>
    split
    next => rw [State.startClear_still, State.takeRow_still htake]
    next => exact State.takeRow_still htake
  next => rfl

theorem State.takeBurnReport_pending : s.takeBurnReport.pending = s.pending := by
  unfold State.takeBurnReport
  split
  next htake => exact State.refreshAttn_pending_of_still ((State.takeReport_still _ _ _ _ _).trans (State.takeRow_still htake))
  next => rfl

theorem State.takeCallAnswered_pending : s.takeCallAnswered.pending = s.pending := by
  unfold State.takeCallAnswered
  split
  next htake => exact State.refreshAttn_pending_of_still ((State.answerCall_still _ _).trans (State.takeLink_still htake))
  next => rfl

theorem State.takeCallClear_pending : s.takeCallClear.pending = s.pending := by
  unfold State.takeCallClear
  split
  next htake => exact State.refreshAttn_pending_of_still ((State.exchangeClears_still _ _ _).trans (State.takeLink_still htake))
  next => rfl

theorem State.takeCallReleased_pending : s.takeCallReleased.pending = s.pending := by
  unfold State.takeCallReleased
  split
  next htake => exact State.refreshAttn_pending_of_still ((State.exchangeReleases_still _ _).trans (State.takeLink_still htake))
  next => rfl

theorem State.takeClock_pending : s.takeClock.pending = s.pending := by
  unfold State.takeClock
  split
  next htake =>
    have hu := State.pending_of_still (State.takeLink_still htake)
    exact hu
  next => rfl

/-! ## The row line, the timers and the supply -/

theorem State.lineFree_still : s.lineFree.still = s.still := by
  unfold State.lineFree; split <;> rfl

theorem State.retryDue_still : s.retryDue.still = s.still := by
  unfold State.retryDue; split <;> rfl

theorem State.spoiled_pending : s.spoiled.pending = s.pending := by
  unfold State.spoiled
  split
  next f _ => exact State.refreshAttn_pending_of_still (s.transmissionFailed_still f)
  next => rfl

theorem State.slotEnds_pending (heard : Option Byte) : (s.slotEnds heard).pending = s.pending := by
  unfold State.slotEnds
  split
  next => rfl
  next f _ =>
    split
    next => rfl
    next =>
      split
      next => exact State.refreshAttn_pending_of_still (s.headDelivered_still f)
      next => exact State.refreshAttn_pending_of_still (s.headUndelivered_still f)
      next => exact State.refreshAttn_pending_of_still (s.transmissionFailed_still f)
      next => exact State.refreshAttn_pending_of_still (s.transmissionFailed_still f)

theorem State.broadcastEnds_still : s.broadcastEnds.still = s.still := by
  unfold State.broadcastEnds
  split
  next => rfl
  next => split <;> simp

theorem State.answerExpires_still (i : StationId) : (s.answerExpires i).still = s.still := by
  unfold State.answerExpires; split <;> simp

theorem State.releaseExpires_pending (i : StationId) : (s.releaseExpires i).pending = s.pending := by
  unfold State.releaseExpires
  split
  next => exact State.refreshAttn_pending_of_still (s.releaseCall_still i)
  next => rfl

theorem State.headExpires_pending (i : StationId) : (s.headExpires i).pending = s.pending := by
  unfold State.headExpires
  split
  next x _ _ _ => exact State.refreshAttn_pending_of_still (s.headExpired_still i x)
  next => rfl

theorem State.replyExpires_pending (i : StationId) : (s.replyExpires i).pending = s.pending := by
  unfold State.replyExpires
  split
  next o _ =>
    split
    next => exact State.refreshAttn_pending_of_still (s.takeOutcome_still i o .timedOut)
    next => rfl
  next => rfl

theorem State.rememberExpires_still (x : Serial) : (s.rememberExpires x).still = s.still := by
  unfold State.rememberExpires
  split
  next => split <;> rfl
  next => rfl

/-- R173: the link goes DOWN, and every station's part leaves the still blocks alone. -/
theorem State.silenceExpires_pending : s.silenceExpires.pending = s.pending := by
  have hstations : (stationIds.foldl State.linkDownStation { s with xlc := s.xlc.goDown }).still = s.still :=
    foldl_stationIds_keeps State.still State.linkDownStation_still _
  unfold State.silenceExpires
  split
  next => exact State.refreshAttn_pending_of_still hstations
  next => rfl

theorem State.untrustExpires_pending : s.untrustExpires.pending = s.pending := by
  unfold State.untrustExpires; split <;> rfl

/-- R145: RESET puts the blocks at their power-up values, not the commands that wait. -/
theorem State.holdReset_pending : s.holdReset.pending = s.pending := by
  unfold State.holdReset; split <;> rfl

theorem State.losePower_pending : s.losePower.pending = s.pending := by
  unfold State.losePower; split <;> rfl

theorem State.loseVbak_pending : s.loseVbak.pending = s.pending := by
  unfold State.loseVbak; split <;> rfl

end

/-! ## Every command -/

section
variable {s t : State}

theorem pending_of_whenRunning {f : State → State} (hf : (f s).pending = s.pending) (h : whenRunning f s = .next t) :
    t.pending = s.pending := by
  rw [whenRunning_next f s t h]
  split
  next => exact hf
  next => rfl

theorem pending_of_whenRunning_still {f : State → State} (hf : (f s).still = s.still) (h : whenRunning f s = .next t) :
    t.pending = s.pending :=
  pending_of_whenRunning (State.pending_of_still hf) h

/-- Taking a command off the queue is the step's work; no command's meaning does it. -/
theorem exec_pending {c : Instr} (h : exec c s = .next t) : t.pending = s.pending := by
  cases c with
  | powerUp => cases h; rfl
  | resetAsserted => cases h; exact s.holdReset_pending
  | powerLoss => cases h; exact s.losePower_pending
  | vbakLost => cases h; exact s.loseVbak_pending
  | rowFrameReceived bytes => exact pending_of_whenRunning (f := State.rowReceived bytes) rfl h
  | cardIn => exact pending_of_whenRunning_still s.takeCardIn_still h
  | cardOut => exact pending_of_whenRunning_still s.takeCardOut_still h
  | number => exact pending_of_whenRunning_still s.takeNumber_still h
  | hookOn => exact pending_of_whenRunning_still s.takeHookOn_still h
  | burnReport => exact pending_of_whenRunning s.takeBurnReport_pending h
  | lineFree => exact pending_of_whenRunning_still s.lineFree_still h
  | retry => exact pending_of_whenRunning_still s.retryDue_still h
  | spoiledTransmission => exact pending_of_whenRunning s.spoiled_pending h
  | acknowledgeSlot heard => exact pending_of_whenRunning (s.slotEnds_pending heard) h
  | broadcastSent => exact pending_of_whenRunning_still s.broadcastEnds_still h
  | linkFrameReceived bytes => exact pending_of_whenRunning (f := State.linkReceived bytes) rfl h
  | callAnswered => exact pending_of_whenRunning s.takeCallAnswered_pending h
  | callClear => exact pending_of_whenRunning s.takeCallClear_pending h
  | callReleased => exact pending_of_whenRunning s.takeCallReleased_pending h
  | clock => exact pending_of_whenRunning s.takeClock_pending h
  | linkFrameSent => exact pending_of_whenRunning (f := State.linkSent) rfl h
  | selectPage => exact pending_of_whenRunning (s.runRequest_pending _ selectPage_pending) h
  | writeEntries => exact pending_of_whenRunning (s.runRequest_pending _ writeEntries_pending) h
  | readEntries => exact pending_of_whenRunning (s.runRequest_pending _ readEntries_pending) h
  | activateBank => exact pending_of_whenRunning (s.runRequest_pending _ activateBank_pending) h
  | setService => exact pending_of_whenRunning (s.runRequest_pending _ setService_pending) h
  | setStation => exact pending_of_whenRunning (s.runRequest_pending _ setStation_pending) h
  | readStation => exact pending_of_whenRunning (s.runRequest_pending _ readStation_pending) h
  | readStatus => exact pending_of_whenRunning (s.runRequest_pending _ readStatus_pending) h
  | fetchRecord => exact pending_of_whenRunning (s.runRequest_pending _ fetchRecord_pending) h
  | releaseRecords => exact pending_of_whenRunning (s.runRequest_pending _ releaseRecords_pending) h
  | removeAutobar => exact pending_of_whenRunning (s.runRequest_pending _ removeAutobar_pending) h
  | restartLine => exact pending_of_whenRunning (s.runRequest_pending _ restartLine_pending) h
  | mgmtRequestUnknown => exact pending_of_whenRunning s.runUnknown_pending h
  | answerTimerExpiry i => exact pending_of_whenRunning_still (s.answerExpires_still i) h
  | releaseTimerExpiry i => exact pending_of_whenRunning (s.releaseExpires_pending i) h
  | headIntervalExpiry i => exact pending_of_whenRunning (s.headExpires_pending i) h
  | replyTimerExpiry i => exact pending_of_whenRunning (s.replyExpires_pending i) h
  | rememberTimerExpiry x => exact pending_of_whenRunning_still (s.rememberExpires_still x) h
  | silenceTimerExpiry => exact pending_of_whenRunning s.silenceExpires_pending h
  | untrustTimerExpiry => exact pending_of_whenRunning s.untrustExpires_pending h
  | timeOfDayTick => exact pending_of_whenRunning (f := State.tick) rfl h

/-- Log 2, log 7: a power event has its effect, any other where the part runs; neither faults nor refuses. -/
theorem exec_next (c : Instr) (s : State) : ∃ t, exec c s = .next t := by
  cases hc : ofPower c with
  | true =>
    cases c with
    | powerUp => exact ⟨s.powerUp, rfl⟩
    | resetAsserted => exact ⟨s.holdReset, rfl⟩
    | powerLoss => exact ⟨s.losePower, rfl⟩
    | vbakLost => exact ⟨s.loseVbak, rfl⟩
    | _ => cases hc
  | false =>
    obtain ⟨f, hf⟩ := exec_eq_whenRunning hc
    exact ⟨if s.running then f s else s, hf s⟩

end

/-- Settles O2: a power event or an event of the running part, each command has a next state; none touches the queue. -/
theorem everyCommandAnswersNext : Obligations.EveryCommandAnswersNext := by
  intro c s
  obtain ⟨t, h⟩ := exec_next c s
  exact ⟨t, h, exec_pending h⟩

/-! ## The step -/

section
variable {s : State}

/-- The command at the front is executed with the queue's rest. -/
theorem step_of_cons {c : Instr} {rest : List Instr} (h : s.pending = c :: rest) :
    step s = exec c { s with pending := rest } := by
  simp only [step, h]

/-- Log 5: with no command waiting the part idles. -/
theorem step_of_nil (h : s.pending = []) : step s = .next s := by
  simp only [step, h]

end

/-- Settles O1: the queue is empty or has a front. -/
theorem stepRunsTheFrontCommand : Obligations.StepRunsTheFrontCommand :=
  ⟨fun _ _ _ => step_of_cons, fun _ => step_of_nil⟩

end Sys2Proof.Machine

/-! # Stations and the call cycle (01): a clear started, released and completed -/

namespace Sys2Proof.Machine

/-! ## A frame at the head of an inbound queue -/

section
variable {s : State}

theorem State.takeRow_of_cons {f : RowInFrame} {rest : List RowInFrame} (hin : s.rlc.inbound = f :: rest) :
    s.takeRow = some (f, s.rowTaken rest) := by
  rw [State.takeRow, hin]; rfl

theorem State.takeLink_of_cons {m : LinkInMsg} {rest : List LinkInMsg} (hin : s.xlc.inbound = m :: rest) :
    s.takeLink = some (m, s.linkTaken rest) := by
  rw [State.takeLink, hin]; rfl

end

theorem StationRecord.inCall_iff (r : StationRecord) : r.inCall = true ↔ r.state = .setup ∨ r.state = .talk := by
  simp [StationRecord.inCall]

/-! ## A clear started -/

/-- R15, R17, R22: what the record of a station with a call holds when its clear has started. -/
theorem StationRecord.cleared_of_context {r : StationRecord} {x : CallContext} (hctx : r.context = some x) (now : Nat)
    (c : EndCause) (released resolved : Bool) :
    r.cleared now c released resolved = { r with
      state := .clearing, intervals := [], answerTimer := none, headTimer := none,
      releaseTimer := if released then none else some 50,
      context := some { x with
        endCause := some c, released := released, orderResolved := some resolved,
        talkDuration := if r.state = .talk then some (now - x.answerMark.getD now) else x.talkDuration } } := by
  simp only [StationRecord.cleared, hctx, Option.map_some]
  rfl

/-- Settles O17: the clear cannot complete at its start, so what is left is the record and the two frames. -/
theorem clearStartedByThePart : Obligations.ClearStartedByThePart := by
  intro s i c x _ hctx
  rw [State.startClear_eq, State.mapStation, StationRecord.cleared_of_context hctx]
  rfl

/-- R8, R152: the head is taken, and a call in SETUP or TALK is cleared. -/
theorem exec_hookOn_eq {s : State} {i : StationId} {rest : List RowInFrame} (hrun : s.running = true)
    (hin : s.rlc.inbound = ⟨i, .hookOn⟩ :: rest) :
    exec .hookOn s = .next (if (s.station i).inCall then (s.rowTaken rest).startClear i .hookOn else s.rowTaken rest) := by
  rw [show exec .hookOn s = whenRunning State.takeHookOn s from rfl, whenRunning_of_running _ s hrun, State.takeHookOn,
    State.takeRow_of_cons hin]
  rfl

/-- Settles O16: a station in SETUP or TALK has a call to clear, one in another state has none. -/
theorem hookOnByState : Obligations.HookOnByState := by
  intro s i rest hrun hin
  rw [exec_hookOn_eq hrun hin]
  refine ⟨fun hcall => ?_, fun hsetup htalk => ?_⟩
  · rw [if_pos ((StationRecord.inCall_iff _).2 hcall)]
  · rw [if_neg fun hcall => ?_]
    exact ((StationRecord.inCall_iff _).1 hcall).elim hsetup htalk

/-! ## A call released -/

section
variable {s : State} {i : StationId} {x : CallContext} (hctx : (s.station i).context = some x)
include hctx

/-- R16, R18, R23: a call that waits for its release is released, and its clear completes if its order is resolved. -/
theorem State.releaseCall_of_waiting (hreleased : x.released = false) :
    s.releaseCall i = (s.setStation i { s.station i with
      context := some { x with released := true }, releaseTimer := none }).completeIfDone i := by
  simp only [State.releaseCall, hctx, hreleased, Bool.false_eq_true, if_false, State.mapStation, StationRecord.released,
    Option.map_some]

theorem State.releaseCall_of_released (hreleased : x.released = true) : s.releaseCall i = s := by
  simp only [State.releaseCall, hctx, hreleased, if_true]

/-- R17: a clear that the exchange starts is released at once. -/
theorem State.exchangeClear_of_context (b : Byte) :
    s.exchangeClear i b = (((s.setStation i { s.station i with
      state := .clearing, intervals := [], answerTimer := none, headTimer := none, releaseTimer := none,
      context := some { x with
        endCause := some (.exchangeClear b), released := true, orderResolved := some (s.order i).isNone,
        talkDuration := if (s.station i).state = .talk then some (s.elapsed - x.answerMark.getD s.elapsed)
          else x.talkDuration } }).offerLink (.callReleased i)).tellStation i (.callEnded (.exchangeClear b))).completeIfDone
        i := by
  rw [State.exchangeClear, State.mapStation, StationRecord.cleared_of_context hctx]
  rfl

/-- R23: a clear with LINK_DOWN is released at once, and no frame is offered on the link. -/
theorem State.clearLinkDown_of_context :
    s.clearLinkDown i = ((s.setStation i { s.station i with
      state := .clearing, intervals := [], answerTimer := none, headTimer := none, releaseTimer := none,
      context := some { x with
        endCause := some .linkDown, released := true, orderResolved := some (s.order i).isNone,
        talkDuration := if (s.station i).state = .talk then some (s.elapsed - x.answerMark.getD s.elapsed)
          else x.talkDuration } }).tellStation i (.callEnded .linkDown)).completeIfDone i := by
  rw [State.clearLinkDown, State.mapStation, StationRecord.cleared_of_context hctx]
  rfl

end

/-! ## The exchange's CALL_CLEAR and CALL_RELEASED -/

section
variable {s : State} {i : StationId} {rest : List LinkInMsg} (hrun : s.running = true)
include hrun

/-- R165: the head is taken, and acts by the state of its station. -/
theorem exec_callClear_eq {b : Byte} (hin : s.xlc.inbound = .callClear i b :: rest) :
    exec .callClear s = .next ((s.linkTaken rest).exchangeClears i b).refreshAttn := by
  rw [show exec .callClear s = whenRunning State.takeCallClear s from rfl, whenRunning_of_running _ s hrun,
    State.takeCallClear, State.takeLink_of_cons hin]

theorem exec_callReleased_eq (hin : s.xlc.inbound = .callReleased i :: rest) :
    exec .callReleased s = .next ((s.linkTaken rest).exchangeReleases i).refreshAttn := by
  rw [show exec .callReleased s = whenRunning State.takeCallReleased s from rfl, whenRunning_of_running _ s hrun,
    State.takeCallReleased, State.takeLink_of_cons hin]

/-- R16: with no time left (log 3), the command releases a call in CLEARING, and ATTN follows. -/
theorem exec_releaseTimerExpiry_of_due (hclearing : (s.station i).state = .clearing)
    (htimer : (s.station i).releaseTimer = some 0) :
    exec (.releaseTimerExpiry i) s = .next (s.releaseCall i).refreshAttn := by
  have hdue : timerDue (s.station i).releaseTimer = true := by rw [htimer]; rfl
  rw [show exec (.releaseTimerExpiry i) s = whenRunning (State.releaseExpires i) s from rfl, whenRunning_of_running _ s hrun,
    State.releaseExpires, if_pos ⟨hclearing, hdue⟩]

end

section
variable {s : State} {i : StationId} (b : Byte)

/-- R18: a station without a call is answered only. -/
theorem State.exchangeClears_of_no_call
    (h : (s.station i).state = .idle ∨ (s.station i).state = .ready ∨ (s.station i).state = .outOfService) :
    s.exchangeClears i b = s.offerLink (.callReleased i) := by
  obtain h | h | h := h <;> simp only [State.exchangeClears, h]

theorem State.exchangeClears_of_call (h : (s.station i).state = .setup ∨ (s.station i).state = .talk) :
    s.exchangeClears i b = s.exchangeClear i b := by
  obtain h | h := h <;> simp only [State.exchangeClears, h]

theorem State.exchangeClears_of_clearing (h : (s.station i).state = .clearing) :
    s.exchangeClears i b = s.releaseCall i := by
  simp only [State.exchangeClears, h]

end

/-- Settles O18: the state of the station decides, and in CLEARING whether the call is released already. -/
theorem exchangeClearByState : Obligations.ExchangeClearByState := by
  intro s i b rest hrun hin
  rw [exec_callClear_eq hrun hin]
  refine ⟨fun hnone => ?noCall, fun x hctx => ⟨fun hcall => ?call, fun hclearing => ⟨fun hr => ?released, fun hr => ?waiting⟩⟩⟩
  case noCall => rw [State.exchangeClears_of_no_call b (s := s.linkTaken rest) hnone]
  case call =>
    rw [State.exchangeClears_of_call b (s := s.linkTaken rest) hcall,
      State.exchangeClear_of_context (s := s.linkTaken rest) hctx]
    rfl
  case released =>
    rw [State.exchangeClears_of_clearing b (s := s.linkTaken rest) hclearing,
      State.releaseCall_of_released (s := s.linkTaken rest) hctx hr]
  case waiting =>
    rw [State.exchangeClears_of_clearing b (s := s.linkTaken rest) hclearing,
      State.releaseCall_of_waiting (s := s.linkTaken rest) hctx hr]
    rfl

/-- Settles O19: the frame and the timer reach the release of a call in CLEARING; elsewhere the frame is only taken. -/
theorem releaseObtained : Obligations.ReleaseObtained := by
  refine ⟨fun s i rest hrun hin => ?frame, fun s i x hrun hclearing hctx hr htimer => ?timer⟩
  case frame =>
    rw [exec_callReleased_eq hrun hin]
    refine ⟨fun hother => ?_, fun x hclearing hctx => ?_⟩
    · rw [State.exchangeReleases, if_neg (by exact hother)]
    · rw [State.exchangeReleases, if_pos (by exact hclearing)]
      refine ⟨fun hr => ?_, fun hr => ?_⟩
      · rw [State.releaseCall_of_released (s := s.linkTaken rest) hctx hr]
      · rw [State.releaseCall_of_waiting (s := s.linkTaken rest) hctx hr]
        rfl
  case timer =>
    rw [exec_releaseTimerExpiry_of_due hrun hclearing htimer, State.releaseCall_of_waiting hctx hr]

/-! ## The silence timer -/

/-- Settles O36: the due timer takes the link DOWN, and each station acts by its state. -/
theorem silenceExpires : Obligations.SilenceExpires := by
  refine ⟨fun s hrun hup htimer => ?expiry, fun s i => ⟨fun hnone => ?noCall, fun x hctx =>
    ⟨fun hcall => ?call, fun hclearing => ⟨fun hr => ?released, fun hr => ?waiting⟩⟩⟩⟩
  case expiry =>
    have hdue : timerDue s.xlc.silence = true := by rw [htimer]; rfl
    rw [show exec .silenceTimerExpiry s = whenRunning State.silenceExpires s from rfl, whenRunning_of_running _ s hrun,
      State.silenceExpires, if_pos ⟨hup, hdue⟩]
    rfl
  case noCall => obtain h | h | h := hnone <;> simp only [State.linkDownStation, h]
  case call =>
    rw [← State.clearLinkDown_of_context hctx]
    obtain h | h := hcall <;> simp only [State.linkDownStation, h]
  case released => simp only [State.linkDownStation, hclearing, State.releaseCall_of_released hctx hr]
  case waiting => simp only [State.linkDownStation, hclearing, State.releaseCall_of_waiting hctx hr]

end Sys2Proof.Machine

/-! # Stations and the call cycle (01): a card that leaves its station, and a clear that completes -/

namespace Sys2Proof.Machine

/-! ## A card leaves its station -/

/-- R56: the card records when the card that station `i` names, if any, has become REMEMBERED. -/
def State.cardsLeft (s : State) (i : StationId) : List CardRecord :=
  match (s.station i).card with
  | some x => rememberCard x s.ct.cards
  | none => s.ct.cards

/-- R56: the records change, and the station names no card. -/
theorem State.removeCard_eq (s : State) (i : StationId) :
    s.removeCard i = (s.withCards (s.cardsLeft i)).setStation i { s.station i with card := none } := by
  cases hcard : (s.station i).card with
  | some x => simp only [State.removeCard, State.cardsLeft, hcard]; rfl
  | none =>
    simp only [State.removeCard, State.cardsLeft, hcard]
    rw [← hcard]
    exact (State.setStation_self s i).symm

/-- R56: the record of a card in use goes to the tail with 300 s. -/
theorem rememberCard_of_find {t : CardTable} {x : Serial} {r : CardRecord} {i : StationId} (hfind : t.find x = some r)
    (hactive : r.state = .active i) :
    rememberCard x t.cards = t.cards.filter (·.serial ≠ x) ++ [{ r with state := .remembered 3000 }] := by
  rw [rememberCard_of_active hfind hactive, dropCard_eq_filter]
  rfl

section
variable {s : State} {i : StationId} {x : Serial} {r : CardRecord} (hcard : (s.station i).card = some x)
  (hfind : s.ct.find x = some r) (hactive : r.state = .active i)
include hcard hfind hactive

theorem State.removeCard_of_active :
    s.removeCard i = (s.withCards (s.ct.cards.filter (·.serial ≠ x) ++ [{ r with state := .remembered 3000 }])).setStation i
      { s.station i with card := none } := by
  rw [State.removeCard_eq, State.cardsLeft, hcard]
  dsimp only
  rw [rememberCard_of_find hfind hactive]

end

/-! ## CARD_OUT, the remember timer and a bar -/

/-- R7, R152: the head is taken, and acts by the state of its station. -/
theorem exec_cardOut_eq {s : State} {i : StationId} {rest : List RowInFrame} (hrun : s.running = true)
    (hin : s.rlc.inbound = ⟨i, .cardOut⟩ :: rest) : exec .cardOut s = .next ((s.rowTaken rest).cardOut i) := by
  rw [show exec .cardOut s = whenRunning State.takeCardOut s from rfl, whenRunning_of_running _ s hrun, State.takeCardOut,
    State.takeRow_of_cons hin]

/-- R57: with no time left (log 3), the command deletes the record. -/
theorem exec_rememberTimerExpiry_of_due {s : State} {x : Serial} {r : CardRecord} (hrun : s.running = true)
    (hfind : s.ct.find x = some r) (htimer : r.state = .remembered 0) :
    exec (.rememberTimerExpiry x) s = .next (s.withCards (dropCard x s.ct.cards)) := by
  rw [show exec (.rememberTimerExpiry x) s = whenRunning (State.rememberExpires x) s from rfl,
    whenRunning_of_running _ s hrun, State.rememberExpires, hfind]
  simp only [htimer, if_true]

section
variable {s : State} {i : StationId}

/-- R7: a station without a card, or in a state that holds none, ignores the frame. -/
theorem State.cardOut_of_ignored
    (h : (s.station i).card = none ∨ (s.station i).state = .idle ∨ (s.station i).state = .outOfService) :
    s.cardOut i = s := by
  unfold State.cardOut
  obtain h | h | h := h <;> split <;> simp_all

variable {x : Serial} (hcard : (s.station i).card = some x)
include hcard

theorem State.cardOut_of_ready (h : (s.station i).state = .ready) :
    s.cardOut i = (s.removeCard i).mapStation i fun r => { r with state := .idle } := by
  simp only [State.cardOut, h, hcard]

theorem State.cardOut_of_call (h : (s.station i).state = .setup ∨ (s.station i).state = .talk) :
    s.cardOut i = (s.removeCard i).startClear i .cardOut := by
  obtain h | h := h <;> simp only [State.cardOut, h, hcard]

theorem State.cardOut_of_clearing (h : (s.station i).state = .clearing) : s.cardOut i = s.removeCard i := by
  simp only [State.cardOut, h, hcard]

end

/-- Settles O15: the card leaves its station, which acts by its state; a due remember timer deletes its record. -/
theorem cardOutAndMemory : Obligations.CardOutAndMemory := by
  refine ⟨fun s i rest hrun hin => ?frame, fun s x r hrun hfind htimer => ?timer⟩
  case frame =>
    rw [exec_cardOut_eq hrun hin]
    refine ⟨fun x r hcard hfind hactive => ?_, fun hignored => ?_⟩
    · have hleft := State.removeCard_of_active (s := s.rowTaken rest) (i := i) hcard hfind hactive
      refine ⟨fun hready => ?_, fun hcall => ?_, fun hclearing => ?_⟩
      · rw [State.cardOut_of_ready (s := s.rowTaken rest) hcard hready, hleft, State.mapStation, State.setStation_same]
        rfl
      · rw [State.cardOut_of_call (s := s.rowTaken rest) hcard ((StationRecord.inCall_iff _).1 hcall), hleft]
        rfl
      · rw [State.cardOut_of_clearing (s := s.rowTaken rest) hcard hclearing, hleft]
        rfl
    · rw [State.cardOut_of_ignored (s := s.rowTaken rest) hignored]
  case timer =>
    rw [exec_rememberTimerExpiry_of_due hrun hfind htimer, dropCard_eq_filter]
    rfl

/-- R73: the record, the refusal and the station's card, before the station acts by its state. -/
theorem State.barCard_of_active {s : State} {i : StationId} {x : Serial} {r : CardRecord} (c : Byte)
    (hfind : s.ct.find x = some r) (hactive : r.state = .active i) :
    s.barCard i x c = ((((s.withCards (s.ct.cards.filter (·.serial ≠ x) ++ [{ r with state := .remembered 3000 }])).tellCard i
      (.cardRefused (.barred c))).setStation i { s.station i with card := none }).lostToBar i) := by
  rw [State.barCard, rememberCard_of_find hfind hactive]
  rfl

/-- Settles O14: the card leaves its station, which acts by its state. -/
theorem cardBarredInUse : Obligations.CardBarredInUse := by
  intro s i x c r hfind hactive
  rw [State.barCard_of_active c hfind hactive]
  refine ⟨fun hready => ?_, fun hcall => ?_, fun hclearing => ?_⟩
  · simp only [State.lostToBar, State.setStation_same, hready, State.mapStation, State.setStation_setStation]
  · obtain h | h := (StationRecord.inCall_iff _).1 hcall <;> simp only [State.lostToBar, State.setStation_same, h]
  · simp only [State.lostToBar, State.setStation_same, hclearing]

/-! ## A clear completes -/

/-- R21 step 4: the record of a station whose call has been stored. -/
def StationRecord.leftCall (r : StationRecord) : StationRecord :=
  { r with
    context := none, releaseTimer := none, thenOut := false
    card := if r.thenOut then none else r.card
    state := if r.thenOut then .outOfService else if r.card.isSome then .ready else .idle }

/-- R21: the record is stored, the bank unpinned, and the station, its card gone with then_out, enters its new state. -/
theorem State.complete_eq (s : State) (i : StationId) (x : CallContext) :
    s.complete i x = (((s.storeRecord i x).unpinBank x.bank).withCards
      (if (s.station i).thenOut then s.cardsLeft i else s.ct.cards)).setStation i (s.station i).leftCall := by
  unfold State.complete
  dsimp only
  split
  next hout =>
    rw [State.removeCard_eq, State.mapStation, State.setStation_same, State.setStation_setStation]
    simp only [StationRecord.completed, StationRecord.leftCall, State.unpinBank_station, State.storeRecord_station, hout,
      if_true]
    rfl
  next hout =>
    simp only [State.mapStation, StationRecord.completed, StationRecord.leftCall, State.unpinBank_station,
      State.storeRecord_station, hout]
    rfl

/-- R133: the record of a context with an end cause. -/
theorem buildRecord_of_endCause {x : CallContext} {c : EndCause} (hc : x.endCause = some c) (n : Nat) (i : StationId) :
    buildRecord n i x = {
      number := n, station := i, card := x.card, dialled := x.dialled, charged := decide (x.kind ≠ .free), bank := x.bank,
      atAnswer := x.atAnswer, openTime := x.openTime, answered := x.answered, talkDuration := x.talkDuration.getD 0,
      intervalsBegun := x.intervalsBegun, unitsBurned := x.unitsBurned, unresolved := x.unresolved, endCause := c } := by
  cases hk : x.kind <;> simp [buildRecord, hc, hk]

/-- Settles O20: unless released and order resolved are both true nothing happens; when they are, the record is stored, the
bank unpinned and the station enters its new state. -/
theorem clearCompletes : Obligations.ClearCompletes := by
  intro s i x c hclearing hctx hcause
  refine ⟨fun hwaits => State.completeIfDone_of_waiting s i x hctx hwaits, fun hreleased hresolved => ?_⟩
  rw [State.completeIfDone_of_done s i x hclearing hctx hreleased hresolved, State.complete_eq]
  refine ⟨?queue, ?bank, ?otherBank, fun hout => ?out, fun hin => ?inService, fun j hj => ?stations, rfl, rfl⟩
  case queue =>
    simp only [State.setStation_rq, State.withCards_rq, State.unpinBank_rq, State.storeRecord_rq, RecordQueue.append,
      buildRecord_of_endCause hcause]
    rfl
  case bank => exact State.unpinBank_same (s.storeRecord i x) x.bank
  case otherBank => exact State.unpinBank_other (s.storeRecord i x) x.bank
  case out =>
    refine ⟨?_, ?_⟩
    · simp [StationRecord.leftCall, hout]
    · simp only [State.setStation_ct, hout, if_true]
      rfl
  case inService =>
    refine ⟨?_, ?_⟩
    · simp [StationRecord.leftCall, hin]
    · simp only [State.setStation_ct, hin, Bool.false_eq_true, if_false]
      rfl
  case stations => exact State.setStation_other _ _ _ _ hj

end Sys2Proof.Machine

/-! # Stations and the call cycle (01): SET_STATION and a station taken out of service -/

namespace Sys2Proof.Machine

/-! ## SET_STATION -/

/-- R184: a mode above 1 is none. -/
theorem modeOf_eq_none {b : Byte} (h : 1 < b) : modeOf b.toNat = none := by
  have hlt : 1 < b.toNat := h
  unfold modeOf
  split
  next heq => omega
  next heq => omega
  next => rfl

section
variable {s : State} {station k mode : Byte}

theorem setStation_of_values {i : StationId} {m : Mode} (hi : stationOf station = some i) (hm : modeOf mode.toNat = some m) :
    setStation [station, k, mode] s =
      if 1 ≤ k.toNat ∧ k.toNat ≤ 3 then ⟨.done, .nothing, (s.setMode i k.toNat m).refreshAttn⟩ else ⟨.range, .nothing, s⟩ := by
  simp only [setStation, hi, hm]
  rfl

theorem setStation_of_no_station (h : stationOf station = none) :
    setStation [station, k, mode] s = ⟨.range, .nothing, s⟩ := by
  simp only [setStation, h]
  rfl

theorem setStation_of_no_mode (h : modeOf mode.toNat = none) : setStation [station, k, mode] s = ⟨.range, .nothing, s⟩ := by
  simp only [setStation, h]
  split
  next heq => cases heq
  next => rfl

/-- R184: with any of the three values out of range nothing is written. -/
theorem setStation_of_out_of_range (h : station = 0 ∨ 48 < station ∨ k = 0 ∨ 3 < k ∨ 1 < mode) :
    setStation [station, k, mode] s = ⟨.range, .nothing, s⟩ := by
  cases hi : stationOf station with
  | none => exact setStation_of_no_station hi
  | some i =>
    cases hm : modeOf mode.toNat with
    | none => exact setStation_of_no_mode hm
    | some m =>
      rw [setStation_of_values hi hm]
      refine if_neg fun ⟨hlow, hhigh⟩ => ?_
      obtain h | h | rfl | h | h := h
      · rw [stationOf_eq_none (.inl h)] at hi; cases hi
      · rw [stationOf_eq_none (.inr h)] at hi; cases hi
      · exact absurd hlow (by decide)
      · exact absurd (BitVec.lt_def.1 h) (Nat.not_lt.2 hhigh)
      · rw [modeOf_eq_none h] at hm; cases hm

end

section
variable (s : State) (i : StationId) (k : Nat)

/-- R27, R184: put in from OUT_OF_SERVICE. -/
theorem State.setMode_into_of_out (h : (s.station i).state = .outOfService) :
    s.setMode i k .into = { s.setStation i { s.station i with cls := k, state := .idle, outReason := none } with
      de := { s.de with failures := s.de.failures.set i 0 } }.tellStation i (.stationMode .into) := by
  simp only [State.setMode, State.putInService, State.mapStation, State.setStation_same, h, if_true,
    State.setStation_setStation]
  rfl

theorem State.setMode_into_of_in (h : (s.station i).state ≠ .outOfService) :
    s.setMode i k .into = s.setStation i { s.station i with cls := k } := by
  simp only [State.setMode, State.putInService, State.mapStation, State.setStation_same, h, if_false]

end

/-! ## Taken out of service -/

section
variable {s : State} {i : StationId} (w : OutReason)

theorem State.takeOut_of_out (h : (s.station i).state = .outOfService) : s.takeOut i w = s := by
  simp only [State.takeOut, h]

theorem State.takeOut_of_idle (h : (s.station i).state = .idle) :
    s.takeOut i w = (s.setStation i { s.station i with state := .outOfService, outReason := some w }).tellStation i
      (.stationMode .out) := by
  simp only [State.takeOut, h, State.mapStation]

/-- R25: the card of a READY station leaves it. -/
theorem State.takeOut_of_ready (h : (s.station i).state = .ready) :
    s.takeOut i w = ((s.removeCard i).setStation i
      { s.station i with card := none, state := .outOfService, outReason := some w }).tellStation i (.stationMode .out) := by
  simp only [State.takeOut, h, State.mapStation, State.removeCard_eq, State.setStation_same, State.setStation_setStation]

theorem State.takeOut_of_call (h : (s.station i).state = .setup ∨ (s.station i).state = .talk) :
    s.takeOut i w = ((s.setStation i { s.station i with thenOut := true, outReason := some w }).startClear i
      w.toEnd).tellStation i (.stationMode .out) := by
  obtain h | h := h <;> simp only [State.takeOut, h, State.mapStation]

/-- R25: a call in CLEARING is marked once. -/
theorem State.takeOut_of_clearing (h : (s.station i).state = .clearing) :
    s.takeOut i w = (if (s.station i).thenOut = true then s
      else s.setStation i { s.station i with thenOut := true, outReason := some w }).tellStation i (.stationMode .out) := by
  simp only [State.takeOut, h, State.mapStation]
  split <;> simp only [State.setStation_self]

end

/-- Settles O21: the three values decide; a station is put in from OUT_OF_SERVICE only, and taken out by its state. -/
theorem stationPutInAndTakenOut : Obligations.StationPutInAndTakenOut := by
  refine ⟨fun s station k mode h => setStation_of_out_of_range h, fun s i k => ⟨?into, ?out, ?putIn,
    s.setMode_into_of_in i k, rfl⟩, fun s i w => ⟨State.takeOut_of_out w, State.takeOut_of_idle w,
    fun x r hready hcard hfind hactive => ?ready, fun hcall => ?call, State.takeOut_of_clearing w⟩⟩
  case into => rw [setStation_of_values (stationOf_code i) (m := .into) rfl]
  case out => rw [setStation_of_values (stationOf_code i) (m := .out) rfl]
  case putIn =>
    rw [State.setStation_setStation]
    exact s.setMode_into_of_out i k
  case ready =>
    rw [State.takeOut_of_ready w hready, State.removeCard_of_active hcard hfind hactive, State.setStation_setStation]
    rfl
  case call =>
    rw [State.takeOut_of_call w ((StationRecord.inCall_iff _).1 hcall)]
    cases w <;> rfl

end Sys2Proof.Machine

/-! # Stations and the call cycle (01): a NUMBER judged, and a call answered -/

namespace Sys2Proof.Machine

/-! ## A NUMBER judged -/

section
variable {s : State} {i : StationId} {digits : List Digit} {rest : List RowInFrame}

/-- R9, R152: the head is taken, and its digits are judged. -/
theorem exec_number_eq (hrun : s.running = true) (hin : s.rlc.inbound = ⟨i, .number digits⟩ :: rest) :
    exec .number s = .next ((s.rowTaken rest).judgeNumber i digits) := by
  rw [show exec .number s = whenRunning State.takeNumber s from rfl, whenRunning_of_running _ s hrun, State.takeNumber,
    State.takeRow_of_cons hin]

theorem exec_number_of_refused (hrun : s.running = true) (hin : s.rlc.inbound = ⟨i, .number digits⟩ :: rest)
    {r : CallRefusal} (hcheck : s.callCheck i digits = .error r) :
    exec .number s = .next ((s.rowTaken rest).tellStation i (.callRefused r)) := by
  have hcheck' : (s.rowTaken rest).callCheck i digits = .error r := hcheck
  rw [exec_number_eq hrun hin, State.judgeNumber, hcheck']

theorem exec_number_of_admitted (hrun : s.running = true) (hin : s.rlc.inbound = ⟨i, .number digits⟩ :: rest) {bank : BankId}
    {k : CallKind} (hcheck : s.callCheck i digits = .ok (bank, k)) :
    exec .number s = .next ((s.rowTaken rest).openCall i digits bank k) := by
  have hcheck' : (s.rowTaken rest).callCheck i digits = .ok (bank, k) := hcheck
  rw [exec_number_eq hrun hin, State.judgeNumber, hcheck']

end

/-! ## The checks of R9 in order -/

section
variable {s : State} {i : StationId} {digits : List Digit} {bank : BankId}

/-- Steps 4 and 5: the kind of call that the ACTIVE bank gives the digits and the card can open. -/
def State.Dialled (s : State) (i : StationId) (bank : BankId) (act : Action) (k : CallKind) : Prop :=
  (act = .free ∧ k = .free) ∨ ∃ n, act = .band n ∧ k = .charged n ∧ (s.station i).card.isSome = true ∧
    (s.priceNow bank n).setup + (s.priceNow bank n).units ≤ s.cardBound i

theorem State.judgeDialled_of_ok {act : Action} {k : CallKind} (hactive : s.activeBank = some bank)
    (hlook : (s.bank bank).lookup digits = some act) (hok : s.Dialled i bank act k) :
    s.judgeDialled i digits = .ok (bank, k) := by
  obtain ⟨rfl, rfl⟩ | ⟨n, rfl, rfl, hcard, hbound⟩ := hok
  · simp only [State.judgeDialled, hactive, hlook]
  · have hnone : ¬(s.station i).card.isNone = true := by simpa using Option.isSome_iff_ne_none.1 hcard
    simp only [State.judgeDialled, hactive, hlook, if_neg hnone, if_neg (Nat.not_lt.2 hbound)]

section
variable (hstate : (s.station i).state = .idle ∨ (s.station i).state = .ready)
include hstate

theorem State.callCheck_of_closed (hclosed : s.mu.service = .closed) : s.callCheck i digits = .error .closed := by
  obtain h | h := hstate <;> simp [State.callCheck, h, hclosed]

variable (hopen : s.mu.service = .opened)
include hopen

theorem State.callCheck_of_linkDown (hdown : s.xlc.link = .down) : s.callCheck i digits = .error .linkDown := by
  obtain h | h := hstate <;> simp [State.callCheck, h, hopen, hdown]

variable (hup : s.xlc.link = .up)
include hup

theorem State.callCheck_of_not_dialled {r : CallRefusal} (hjudged : s.judgeDialled i digits = .error r) :
    s.callCheck i digits = .error r := by
  obtain h | h := hstate <;> simp [State.callCheck, h, hopen, hup, hjudged]

variable {k : BankId × CallKind} (hjudged : s.judgeDialled i digits = .ok k)
include hjudged

/-- Steps 1 to 5 passed, a place and the room of the link's queue are asked for. -/
theorem State.callCheck_of_dialled : s.callCheck i digits =
    if !s.rq.hasPlace then .error .recordsFull else if !s.xlc.hasRoom then .error .linkCongested else .ok k := by
  obtain h | h := hstate <;> simp [State.callCheck, h, hopen, hup, hjudged]

theorem State.callCheck_of_full (hfull : 512 ≤ s.rq.records.length + s.rq.reservations) :
    s.callCheck i digits = .error .recordsFull := by
  have hplace : s.rq.hasPlace = false := decide_eq_false (Nat.not_lt.2 hfull)
  rw [State.callCheck_of_dialled hstate hopen hup hjudged]
  simp only [hplace, Bool.not_false, if_true]

variable (hplace : s.rq.records.length + s.rq.reservations < 512)
include hplace

theorem State.callCheck_of_congested (hfull : 128 ≤ s.xlc.outbound.length) :
    s.callCheck i digits = .error .linkCongested := by
  have hroom : s.xlc.hasRoom = false := decide_eq_false (Nat.not_lt.2 hfull)
  have hplace' : s.rq.hasPlace = true := decide_eq_true hplace
  rw [State.callCheck_of_dialled hstate hopen hup hjudged]
  simp only [hplace', hroom, Bool.not_true, Bool.not_false, Bool.false_eq_true, if_false, if_true]

theorem State.callCheck_of_room (hroom : s.xlc.outbound.length < 128) : s.callCheck i digits = .ok k := by
  have hroom' : s.xlc.hasRoom = true := decide_eq_true hroom
  have hplace' : s.rq.hasPlace = true := decide_eq_true hplace
  rw [State.callCheck_of_dialled hstate hopen hup hjudged]
  simp only [hplace', hroom', Bool.not_true, Bool.false_eq_true, if_false]

end

end

/-- Settles O23: check by check, each that fails with the ones before it passed. -/
theorem callRefusedInOrder : Obligations.CallRefusedInOrder := by
  intro s i digits rest hrun hin refused
  have hrefused : ∀ {r}, s.callCheck i digits = .error r → refused r := exec_number_of_refused hrun hin
  refine ⟨fun hout => hrefused ?out, fun hbusy => hrefused ?busy, fun hstate => ⟨fun hclosed =>
    hrefused (State.callCheck_of_closed hstate hclosed), fun hopen => ⟨fun hdown =>
      hrefused (State.callCheck_of_linkDown hstate hopen hdown), fun hup => ?dialled⟩⟩⟩
  case out => simp only [State.callCheck, hout, if_true]
  case busy => obtain h | h | h := hbusy <;> simp [State.callCheck, h]
  case dialled =>
    have hnot : ∀ {r}, s.judgeDialled i digits = .error r → refused r := fun h =>
      hrefused (State.callCheck_of_not_dialled hstate hopen hup h)
    refine ⟨fun hnone => hnot (by simp only [State.judgeDialled, hnone]), fun bank hactive =>
      ⟨fun hlook => hnot (by simp only [State.judgeDialled, hactive, hlook]),
        fun hlook => hnot (by simp only [State.judgeDialled, hactive, hlook]),
        fun n hlook => ⟨fun hcard => hnot ?noCard, fun hcard hbound => hnot ?noUnits⟩, fun hok => ?places⟩⟩
    case noCard => simp only [State.judgeDialled, hactive, hlook, hcard, Option.isNone_none, if_true]
    case noUnits =>
      have hsome : ¬(s.station i).card.isNone = true := by simpa using hcard
      simp only [State.judgeDialled, hactive, hlook, if_neg hsome, if_pos hbound]
    case places =>
      have hjudged : ∃ k, s.judgeDialled i digits = .ok k := by
        obtain hlook | ⟨n, hlook, hcard, hbound⟩ := hok
        · exact ⟨_, State.judgeDialled_of_ok hactive hlook (.inl ⟨rfl, rfl⟩)⟩
        · exact ⟨_, State.judgeDialled_of_ok hactive hlook
            (.inr ⟨n, rfl, rfl, Option.isSome_iff_ne_none.2 hcard, hbound⟩)⟩
      obtain ⟨k, hjudged⟩ := hjudged
      exact ⟨fun hfull => hrefused (State.callCheck_of_full hstate hopen hup hjudged hfull), fun hplace hfull =>
        hrefused (State.callCheck_of_congested hstate hopen hup hjudged hplace hfull)⟩

/-- R11: what the admission of a call leaves. -/
theorem State.openCall_eq (s : State) (i : StationId) (digits : List Digit) (bank : BankId) (k : CallKind) :
    s.openCall i digits bank k = (({ s.pinBank bank with rq := s.rq.reserve }.setStation i { s.station i with
      context := some (s.newContext i digits bank k), answerTimer := some answerTime, state := .setup }).offerLink
        (.callOpen i digits)) := by
  unfold State.openCall
  dsimp only
  rw [State.mapStation, State.offerLink_station, State.mapStation_same]
  simp only [State.mapStation, State.offerLink, State.setStation, PerStation.set_set]
  rfl

/-- R3: the card a station holds, with its batch. -/
theorem State.heldCard_eq (s : State) (i : StationId) :
    s.heldCard i = (s.station i).card.bind fun x => (s.ct.find x).map fun r => (x, r.batch) := by
  unfold State.heldCard
  cases (s.station i).card <;> rfl

/-- Settles O22: every check passes, and the admission does what R11 says. -/
theorem callAdmitted : Obligations.CallAdmitted := by
  intro s i digits rest bank k act hrun hin hstate hopen hup hactive hlook hok hplace hroom
  have hjudged := State.judgeDialled_of_ok hactive hlook hok
  rw [exec_number_of_admitted hrun hin (State.callCheck_of_room hstate hopen hup hjudged hplace hroom), State.openCall_eq]
  refine ⟨_, rfl, ?station, fun j hj => ?others, ?pinned, ?otherBank, rfl, ?link, rfl⟩
  case station =>
    rw [State.offerLink_station, State.setStation_same, State.newContext, State.heldCard_eq]
    rfl
  case others =>
    rw [State.offerLink_station, State.setStation_other _ _ _ _ hj]
    rfl
  case pinned => exact State.setBank_same _ bank _
  case otherBank => exact State.setBank_other _ bank _
  case link => exact ExchangeLink.offer_of_room _ _ hup hroom

end Sys2Proof.Machine

/-! # Stations and the call cycle (01): a call answered or not -/

namespace Sys2Proof.Machine

/-! ## CALL_ANSWERED and the answer timer -/

section
variable {s : State} {i : StationId} (hrun : s.running = true)
include hrun

/-- R12, R165: the head is taken, and its station acts by its call. -/
theorem exec_callAnswered_eq {rest : List LinkInMsg} (hin : s.xlc.inbound = .callAnswered i :: rest) :
    exec .callAnswered s = .next ((s.linkTaken rest).answerCall i).refreshAttn := by
  rw [show exec .callAnswered s = whenRunning State.takeCallAnswered s from rfl, whenRunning_of_running _ s hrun,
    State.takeCallAnswered, State.takeLink_of_cons hin]

/-- R13: with no time left (log 3), the command clears the call. -/
theorem exec_answerTimerExpiry_of_due (hsetup : (s.station i).state = .setup) (htimer : (s.station i).answerTimer = some 0) :
    exec (.answerTimerExpiry i) s = .next (s.startClear i .noAnswer) := by
  have hdue : timerDue (s.station i).answerTimer = true := by rw [htimer]; rfl
  rw [show exec (.answerTimerExpiry i) s = whenRunning (State.answerExpires i) s from rfl, whenRunning_of_running _ s hrun,
    State.answerExpires, if_pos ⟨hsetup, hdue⟩]

end

section
variable {s : State} {i : StationId} {x : CallContext}

/-- R19: the answer to a station not in SETUP. -/
theorem State.answerCall_of_not_setup (h : (s.station i).state ≠ .setup) :
    s.answerCall i = s.offerLink (.callClear i .noCall) := by
  unfold State.answerCall
  split
  next hsetup _ => exact (h hsetup).elim
  next => rfl

variable (hsetup : (s.station i).state = .setup) (hctx : (s.station i).context = some x)
include hsetup hctx

/-- R12: a FREE call enters TALK. -/
theorem State.answerCall_of_free (hkind : x.kind = .free) :
    s.answerCall i = (s.setStation i { s.station i with
      state := .talk, answerTimer := none,
      context := some { x with answered := true, answerMark := some s.elapsed, atAnswer := none } }).tellStation i
        .connected := by
  simp only [State.answerCall, hsetup, hctx, hkind, State.answerFree, State.mapStation, Option.map_some,
    CallContext.answer]

theorem State.answerCall_of_charged {b : Band} (hkind : x.kind = .charged b) : s.answerCall i = s.answerCharged i x.bank b := by
  simp only [State.answerCall, hsetup, hctx, hkind]

end

/-- Settles O24: the call of the station decides, and the due timer clears it. -/
theorem answerAndNoAnswer : Obligations.AnswerAndNoAnswer := by
  refine ⟨fun s i rest hrun hin => ?frame, fun s i hrun => exec_answerTimerExpiry_of_due hrun⟩
  rw [exec_callAnswered_eq hrun hin]
  refine ⟨fun x hsetup hctx hkind => ?_, fun hother => ?_⟩
  · rw [State.answerCall_of_free (s := s.linkTaken rest) hsetup hctx hkind]
    rfl
  · rw [State.answerCall_of_not_setup (s := s.linkTaken rest) hother]

/-! ## The answer of a CHARGED call -/

section
variable {s : State} {i : StationId} {x : CallContext} {card : Serial} (hctx : (s.station i).context = some x)
  (hcard : (s.station i).card = some card) (bank : BankId) (b : Band)
include hctx hcard

/-- R34: a card that pays no interval. -/
theorem State.answerCharged_of_none
    (hj : openingCount (s.station i).cls (s.lowerBound card) ((s.bank bank).price b (s.period bank b)) = 0) :
    s.answerCharged i bank b = (s.setStation i { s.station i with
      answerTimer := none,
      context := some { x with
        answered := true, answerMark := some s.elapsed, atAnswer := some (b, s.period bank b) } }).startClear i .noUnits := by
  have hbound : s.cardBound i = s.lowerBound card := by simp only [State.cardBound, hcard]
  simp only [State.answerCharged, hcard, hbound, hj, if_true, State.mapStation, hctx, Option.map_some, CallContext.answer]

/-- R35: a card that pays `j` intervals. -/
theorem State.answerCharged_of_some {e : BandEntry} {j : Nat} (he : (s.bank bank).price b (s.period bank b) = e)
    (hj : openingCount (s.station i).cls (s.lowerBound card) e = j) (hpos : 1 ≤ j) :
    s.answerCharged i bank b = ((s.setStation i { s.station i with
      state := .talk, answerTimer := none, headTimer := some e.length, intervals := pricedBlock j e,
      context := some { x with
        answered := true, answerMark := some s.elapsed, atAnswer := some (b, s.period bank b),
        intervalsBegun := 1 } }).tellStation i .connected).issueOrder i card (e.setup + j * e.units) .opening := by
  have hbound : s.cardBound i = s.lowerBound card := by simp only [State.cardBound, hcard]
  have hne : ¬j = 0 := Nat.one_le_iff_ne_zero.1 hpos
  simp only [State.answerCharged, hcard, hbound, he, hj, hne, if_false, State.openTalk, State.mapStation,
    State.setStation_same, State.setStation_setStation, hctx, Option.map_some, CallContext.answer]

end

/-- Settles O25: the number of intervals the card pays decides. -/
theorem chargedAnswer : Obligations.ChargedAnswer := by
  intro s i rest x b card hrun hin hsetup hctx hkind hcard p e j answered
  rw [exec_callAnswered_eq hrun hin, State.answerCall_of_charged (s := s.linkTaken rest) hsetup hctx hkind]
  refine ⟨fun hj => ?none, fun hj => ?some⟩
  case none =>
    rw [State.answerCharged_of_none (s := s.linkTaken rest) hctx hcard x.bank b hj]
    rfl
  case some =>
    rw [State.answerCharged_of_some (s := s.linkTaken rest) hctx hcard x.bank b (e := e) (j := j) rfl rfl hj]
    rfl

end Sys2Proof.Machine

/-! # Metering of intervals (02): what an outcome does to its call -/

namespace Sys2Proof.Machine

/-! ## The intervals an outcome covers -/

theorem keepPaid_of_paid {l : List Interval} (h : ∀ e ∈ l, e.status = .paid) : keepPaid l = l :=
  List.filter_eq_self.2 fun e he => by rw [h e he]; rfl

theorem keepPaid_of_priced {l : List Interval} (h : ∀ e ∈ l, e.status = .priced) : keepPaid l = [] :=
  List.filter_eq_nil_iff.2 fun e he => by rw [h e he]; decide

/-- R46: paid entries ahead stay as they are. -/
theorem coverFrom_paid_append {paid : List Interval} (h : ∀ e ∈ paid, e.status = .paid) (b : Nat) (l : List Interval) :
    coverFrom b (paid ++ l) = paid ++ coverFrom b l := by
  induction paid with
  | nil => rfl
  | cons e es ih =>
    have he := h e List.mem_cons_self
    rw [List.cons_append, List.cons_append, ← ih fun e' he' => h e' (List.mem_cons_of_mem _ he')]
    simp only [coverFrom, he]

/-- R46: of priced entries of `u` units each, `b` units cover the first `b / u`. -/
theorem coverFrom_of_priced {u : Nat} (hu : 1 ≤ u) {l : List Interval} (h : ∀ e ∈ l, e.status = .priced ∧ e.units = u)
    (b : Nat) : coverFrom b l = (l.take (b / u)).map fun e => { e with status := .paid } := by
  induction l generalizing b with
  | nil => simp [coverFrom]
  | cons e es ih =>
    obtain ⟨hpriced, hunits⟩ := h e List.mem_cons_self
    rw [coverFrom, hpriced]
    dsimp only
    rw [hunits]
    by_cases hle : u ≤ b
    · have hdiv : b / u = (b - u) / u + 1 := by
        conv_lhs => rw [← Nat.sub_add_cancel hle]
        exact Nat.add_div_right _ hu
      rw [if_pos hle, ih (fun e' he' => h e' (List.mem_cons_of_mem _ he')), hdiv, List.take_succ_cons, List.map_cons, hunits]
    · rw [if_neg hle, Nat.div_eq_of_lt (Nat.lt_of_not_le hle)]
      rfl

/-- R46: of paid entries, then priced ones of `u` units each. -/
theorem coverShort_of_block {due b u : Nat} {paid priced : List Interval} (hpaid : ∀ e ∈ paid, e.status = .paid)
    (hpriced : ∀ e ∈ priced, e.status = .priced ∧ e.units = u) (hu : 1 ≤ u) :
    coverShort due b (paid ++ priced) =
      paid ++ (priced.take (if b < due then 0 else (b - due) / u)).map fun e => { e with status := .paid } := by
  unfold coverShort
  split
  next =>
    have happend : keepPaid (paid ++ priced) = keepPaid paid ++ keepPaid priced := List.filter_append ..
    rw [happend, keepPaid_of_paid hpaid, keepPaid_of_priced fun e he => (hpriced e he).1]
    rfl
  next => rw [coverFrom_paid_append hpaid, coverFrom_of_priced hu hpriced]

/-! ## An outcome acts on its call -/

/-- The context and the interval list of station `i` replaced. -/
def State.withCall (s : State) (i : StationId) (y : CallContext) (l : List Interval) : State :=
  s.setStation i { s.station i with context := some y, intervals := l }

section
variable (s : State) (i : StationId) (y : CallContext) (c : FinalCause)

/-- R46, R47: nothing is left of the list. -/
theorem State.withCall_cutBack_nil (l : List Interval) :
    (s.withCall i y l).cutBack i [] c = (s.withCall i y []).startClear i c.toEnd := by
  simp only [State.withCall, State.cutBack, State.mapStation, State.setStation_same, State.setStation_setStation,
    List.isEmpty_nil, if_true]

/-- R46, R47: entries are left, and the call is final. -/
theorem State.withCall_cutBack_left (l : List Interval) {left : List Interval} (hleft : left ≠ []) :
    (s.withCall i y l).cutBack i left c =
      (s.withCall i { y with finalMark := some c } left).tellStation i (.unitsLow c) := by
  have hempty : ¬left.isEmpty = true := by simpa using hleft
  rw [State.cutBack, if_neg hempty, State.markFinal_of_context _ i y c (by rw [State.mapStation_same, State.withCall,
    State.setStation_same])]
  simp only [State.withCall, State.mapStation, State.setStation_same, State.setStation_setStation]

end

section
variable {s : State} {i : StationId} {x : CallContext} (hctx : (s.station i).context = some x) (o : BurnOrder)
include hctx

omit o in
theorem State.mapContext_eq_withCall (f : CallContext → CallContext) :
    s.mapContext i f = s.withCall i (f x) (s.station i).intervals :=
  s.mapContext_of_context i x f hctx

/-- R44: the totals, then the list. -/
theorem State.outcomeToCall_of_talk (out : OrderOutcome) (h : (s.station i).state = .talk) :
    s.outcomeToCall i o out = (s.withCall i (o.totals out x) (s.station i).intervals).outcomeInTalk i o out x := by
  simp only [State.outcomeToCall, h, hctx, State.mapContext_eq_withCall hctx]

/-- R20, R44, R48: the totals, then order resolved. -/
theorem State.outcomeToCall_of_clearing (out : OrderOutcome) (h : (s.station i).state = .clearing) :
    s.outcomeToCall i o out =
      (s.withCall i { o.totals out x with orderResolved := some true } (s.station i).intervals).completeIfDone i := by
  simp only [State.outcomeToCall, h, State.mapContext_eq_withCall hctx]
  rw [State.resolveOrder, State.mapContext_eq_withCall (x := o.totals out x) (by rw [State.withCall, State.setStation_same])]
  simp only [State.withCall, State.setStation_same, State.setStation_setStation]

variable (h : (s.station i).state = .talk)
include h

/-- R45. -/
theorem State.outcomeToCall_full (now : Nat) :
    s.outcomeToCall i o (.full now) =
      s.withCall i { x with unitsBurned := x.unitsBurned + o.units } (payAll (s.station i).intervals) := by
  rw [State.outcomeToCall_of_talk hctx o _ h]
  simp only [State.withCall, State.outcomeInTalk, BurnOrder.totals, State.mapStation, State.setStation_same,
    State.setStation_setStation]

/-- R46. -/
theorem State.outcomeToCall_short (b now : Nat) :
    s.outcomeToCall i o (.short b now) =
      (s.withCall i { x with unitsBurned := x.unitsBurned + b } (s.station i).intervals).cutBack i
        (coverShort (s.setupDue o x) b (s.station i).intervals) .burnShort := by
  rw [State.outcomeToCall_of_talk hctx o _ h]
  simp only [State.outcomeInTalk, State.withCall, State.setStation_same]
  rfl

/-- R47. -/
theorem State.outcomeToCall_undelivered :
    s.outcomeToCall i o .undelivered =
      (s.withCall i x (s.station i).intervals).cutBack i (keepPaid (s.station i).intervals) .burnFailed := by
  rw [State.outcomeToCall_of_talk hctx o _ h]
  simp only [State.outcomeInTalk, State.withCall, State.setStation_same]
  rfl

/-- R47, R44: besides, the units are unresolved. -/
theorem State.outcomeToCall_timedOut :
    s.outcomeToCall i o .timedOut =
      (s.withCall i { x with unresolved := some o.units } (s.station i).intervals).cutBack i
        (keepPaid (s.station i).intervals) .burnFailed := by
  rw [State.outcomeToCall_of_talk hctx o _ h]
  simp only [State.outcomeInTalk, State.withCall, State.setStation_same]
  rfl

end

/-- Settles O32: in TALK by the outcome and by what is left of the list, in CLEARING by the completion that may follow; and
the entries covered are counted by division. -/
theorem outcomeOnTheCall : Obligations.OutcomeOnTheCall := by
  refine ⟨?calls, fun due b u paid priced => coverShort_of_block⟩
  intro s i o x hctx with' l paid unresolved
  refine ⟨fun htalk => ⟨State.outcomeToCall_full hctx o htalk, fun b now => ⟨fun hnone => ?_, fun hsome => ?_⟩,
    fun hnone => ⟨?_, ?_⟩, fun hsome => ⟨?_, ?_⟩⟩, fun hclearing => ?clearing⟩
  · rw [State.outcomeToCall_short hctx o htalk b now]
    exact (congrArg (State.cutBack _ i · .burnShort) hnone).trans (s.withCall_cutBack_nil i _ .burnShort _)
  · rw [State.outcomeToCall_short hctx o htalk b now]
    exact s.withCall_cutBack_left i _ .burnShort _ hsome
  · rw [State.outcomeToCall_undelivered hctx o htalk]
    exact (congrArg (State.cutBack _ i · .burnFailed) hnone).trans (s.withCall_cutBack_nil i _ .burnFailed _)
  · rw [State.outcomeToCall_timedOut hctx o htalk]
    exact (congrArg (State.cutBack _ i · .burnFailed) hnone).trans (s.withCall_cutBack_nil i _ .burnFailed _)
  · rw [State.outcomeToCall_undelivered hctx o htalk]
    exact s.withCall_cutBack_left i _ .burnFailed _ hsome
  · rw [State.outcomeToCall_timedOut hctx o htalk]
    exact s.withCall_cutBack_left i _ .burnFailed _ hsome
  case clearing =>
    have hcall := fun out => State.outcomeToCall_of_clearing hctx o out hclearing
    exact ⟨fun now => hcall (.full now), fun b now => hcall (.short b now), hcall .undelivered, hcall .timedOut⟩

end Sys2Proof.Machine

/-! # Stations and the call cycle (01): the state that a power-up leaves -/

namespace Sys2Proof.Machine

section
variable (s : State)

/-- R5, R142: the blocks of a power-up, and ATTN driven, the link being DOWN. -/
theorem State.powerUp_eq :
    s.powerUp = s.atPowerUp { supply := true, reset := false, attn := true } s.rq.judged := by
  have hattn : (s.atPowerUp { supply := true, reset := false, attn := true } s.rq.judged).attnHolds = true :=
    (State.attnHolds_iff _).2 (.inr (.inl rfl))
  rw [State.powerUp, State.refreshAttn, hattn]
  rfl

variable (pins : Pins) (q : RecordQueue) (i : StationId)

@[simp] theorem State.atPowerUp_station : (s.atPowerUp pins q).station i = StationRecord.reset := PerStation.get_fill _ i

@[simp] theorem State.atPowerUp_order : (s.atPowerUp pins q).order i = none := PerStation.get_fill _ i

theorem State.atPowerUp_failures : (s.atPowerUp pins q).de.failures.get i = 0 := PerStation.get_fill _ i

@[simp] theorem State.atPowerUp_bank (x : BankId) : (s.atPowerUp pins q).bank x = Bank.reset := by cases x <;> rfl

end

/-- R142: the store is usable when VBAK held and the check agrees. -/
theorem RecordQueue.judged_of_usable {q : RecordQueue} (h : q.store.vbakHeld = true ∧ q.store.checkAgrees = true) :
    q.judged = { records := q.store.records, nextNumber := q.store.nextNumber, reservations := 0, retained := true,
                 store := q.store } := by
  rw [RecordQueue.judged, if_pos (Bool.and_eq_true_iff.2 h)]

theorem RecordQueue.judged_of_not_usable {q : RecordQueue} (h : ¬(q.store.vbakHeld = true ∧ q.store.checkAgrees = true)) :
    q.judged = .reset := by
  rw [RecordQueue.judged, if_neg (mt Bool.and_eq_true_iff.1 h)]

theorem RecordQueue.judged_reservations (q : RecordQueue) : q.judged.reservations = 0 := by
  unfold RecordQueue.judged
  split <;> rfl

/-- Settles O4: every block is at its power-up values, and the store is judged usable or not. -/
theorem powerUpState : Obligations.PowerUpState := by
  intro s
  refine ⟨s.powerUp, rfl, ?_⟩
  rw [State.powerUp_eq]
  refine ⟨rfl, fun i => ⟨State.atPowerUp_station _ _ _ i, State.atPowerUp_order _ _ _ i, State.atPowerUp_failures _ _ _ i⟩,
    rfl, rfl, rfl, State.atPowerUp_bank _ _ _, rfl, rfl, ⟨rfl, rfl, rfl, rfl⟩, ⟨rfl, rfl, rfl, rfl⟩,
    s.rq.judged_reservations, ?_⟩
  show if _ then s.rq.judged.records = _ ∧ s.rq.judged.nextNumber = _ ∧ s.rq.judged.retained = true
    else s.rq.judged.records = [] ∧ s.rq.judged.nextNumber = 1 ∧ s.rq.judged.retained = false
  split
  next h => rw [RecordQueue.judged_of_usable h]; exact ⟨rfl, rfl, rfl⟩
  next h => rw [RecordQueue.judged_of_not_usable h]; exact ⟨rfl, rfl, rfl⟩

end Sys2Proof.Machine

/-! # Stations and the call cycle (01): what a station record holds, and what a command can do to the calls -/

namespace Sys2Proof.Machine

/-! ## What a station record holds, state by state -/

section
variable {r : StationRecord} {o : Option BurnOrder}

theorem StationRecord.holds_of_idle (h : r.state = .idle) :
    r.Holds o ↔ r.card = none ∧ r.Callless o ∧ r.outReason = none := by
  cases hctx : r.context <;> simp only [StationRecord.Holds, h, hctx]

theorem StationRecord.holds_of_ready (h : r.state = .ready) :
    r.Holds o ↔ r.card.isSome = true ∧ r.Callless o ∧ r.outReason = none := by
  cases hctx : r.context <;> simp only [StationRecord.Holds, h, hctx]

theorem StationRecord.holds_of_out (h : r.state = .outOfService) :
    r.Holds o ↔ r.card = none ∧ r.Callless o ∧ r.outReason.isSome = true := by
  cases hctx : r.context <;> simp only [StationRecord.Holds, h, hctx]

theorem StationRecord.holds_of_setup (h : r.state = .setup) :
    r.Holds o ↔ ∃ x, r.context = some x ∧ r.intervals = [] ∧ r.answerTimer.isSome = true ∧ r.releaseTimer = none ∧
      r.headTimer = none ∧ o = none ∧ r.thenOut = false ∧ r.outReason = none ∧ x.talkDuration = none ∧
      (x.kind ≠ .free → r.card.isSome = true) := by
  cases hctx : r.context <;> simp [StationRecord.Holds, h, hctx]

theorem StationRecord.holds_of_talk (h : r.state = .talk) :
    r.Holds o ↔ ∃ x, r.context = some x ∧ r.Connected o x ∧ r.answerTimer = none ∧ r.releaseTimer = none ∧
      r.thenOut = false ∧ r.outReason = none ∧ x.answerMark.isSome = true ∧ x.talkDuration = none := by
  cases hctx : r.context <;> simp [StationRecord.Holds, h, hctx]

theorem StationRecord.holds_of_clearing (h : r.state = .clearing) :
    r.Holds o ↔ ∃ x, r.context = some x ∧ r.Clearing o x := by
  cases hctx : r.context <;> simp [StationRecord.Holds, h, hctx]

end

/-- R2, R4: a station record with a class 1 to 3 that holds what its state allows, `o` being the DE's order for it. -/
def StationRecord.Fits (r : StationRecord) (o : Option BurnOrder) : Prop := (1 ≤ r.cls ∧ r.cls ≤ 3) ∧ r.Holds o

theorem State.stationsHold_iff (s : State) : s.StationsHold ↔ ∀ i, (s.station i).Fits (s.order i) := .rfl

/-- The bank that prices the call of a station, if it has one. -/
def StationRecord.callBank (r : StationRecord) : Option BankId := r.context.map (·.bank)

/-- R26: withdrawn, and `q` still is, with its reason. -/
def StationRecord.StaysOut (r q : StationRecord) : Prop :=
  r.state = .outOfService → q.state = .outOfService ∧ q.outReason = r.outReason

theorem StationRecord.staysOut_of_in {r : StationRecord} (h : r.state ≠ .outOfService) (q : StationRecord) : r.StaysOut q :=
  fun hout => (h hout).elim

section
variable {r : StationRecord} {o : Option BurnOrder} (h : r.Fits o)
include h

/-- R4: a station with a call in SETUP or TALK has a context, and is not to go out of service. -/
theorem StationRecord.Fits.inCall (hcall : r.inCall = true) :
    ∃ x, r.context = some x ∧ r.thenOut = false ∧ r.outReason = none := by
  obtain hs | hs := (StationRecord.inCall_iff r).1 hcall
  · obtain ⟨x, hctx, _, _, _, _, _, hthen, hreason, _⟩ := (StationRecord.holds_of_setup hs).1 h.2
    exact ⟨x, hctx, hthen, hreason⟩
  · obtain ⟨x, hctx, _, _, _, hthen, hreason, _⟩ := (StationRecord.holds_of_talk hs).1 h.2
    exact ⟨x, hctx, hthen, hreason⟩

/-- R4: a station with a call has a context, and then_out says whether it has an out reason. -/
theorem StationRecord.Fits.thenOut_eq (hcall : r.hasCall = true) : r.thenOut = r.outReason.isSome := by
  by_cases hin : r.inCall = true
  · obtain ⟨_, _, hthen, hreason⟩ := h.inCall hin
    rw [hthen, hreason]; rfl
  · have hs : r.state = .clearing := by
      simp only [StationRecord.inCall, StationRecord.hasCall, Bool.or_eq_true, beq_iff_eq] at hin hcall
      tauto
    obtain ⟨x, _, _, _, _, _, _, _, hthen, _⟩ := (StationRecord.holds_of_clearing hs).1 h.2
    exact hthen

/-- R4: a call and a context come together. -/
theorem StationRecord.Fits.hasCall_eq : r.hasCall = r.context.isSome := by
  cases hs : r.state with
  | idle =>
    obtain ⟨_, ⟨hctx, _⟩, _⟩ := (StationRecord.holds_of_idle hs).1 h.2
    simp [StationRecord.hasCall, hs, hctx]
  | ready =>
    obtain ⟨_, ⟨hctx, _⟩, _⟩ := (StationRecord.holds_of_ready hs).1 h.2
    simp [StationRecord.hasCall, hs, hctx]
  | outOfService =>
    obtain ⟨_, ⟨hctx, _⟩, _⟩ := (StationRecord.holds_of_out hs).1 h.2
    simp [StationRecord.hasCall, hs, hctx]
  | setup =>
    obtain ⟨x, hctx, _⟩ := (StationRecord.holds_of_setup hs).1 h.2
    simp [StationRecord.hasCall, hs, hctx]
  | talk =>
    obtain ⟨x, hctx, _⟩ := (StationRecord.holds_of_talk hs).1 h.2
    simp [StationRecord.hasCall, hs, hctx]
  | clearing =>
    obtain ⟨x, hctx, _⟩ := (StationRecord.holds_of_clearing hs).1 h.2
    simp [StationRecord.hasCall, hs, hctx]

end

/-- What a record holds does not depend on which order the DE holds, only on whether it holds one. -/
theorem StationRecord.Fits.of_order {r : StationRecord} {o p : Option BurnOrder} (h : r.Fits o)
    (hp : p.isNone = o.isNone) : r.Fits p := by
  have hnone : p = none ↔ o = none := by rw [← Option.isNone_iff_eq_none, ← Option.isNone_iff_eq_none, hp]
  have heq : r.Holds p = r.Holds o := by
    unfold StationRecord.Holds StationRecord.Callless StationRecord.Connected StationRecord.Clearing
    simp only [hnone, hp]
  exact ⟨h.1, heq ▸ h.2⟩

/-! ## The moves -/

/-- From `s` to `t` no station, order, bank, record or reservation changes, nor the service state. -/
structure State.SameCalls (s t : State) : Prop where
  cc : t.cc = s.cc
  orders : t.de.orders = s.de.orders
  ts : t.ts = s.ts
  rq : t.rq = s.rq
  service : t.mu.service = s.mu.service

/-- What the command `c` does to stations, orders, banks, records and the service state is a sequence of these moves. -/
inductive State.CallMove (c : Instr) (s : State) : State → Prop
  /-- None of them changes. -/
  | same {t : State} (h : s.SameCalls t) : s.CallMove c t
  /-- The record and the order of station `i` become `r` and `o`; a call goes on at its bank. -/
  | station (i : StationId) (r : StationRecord) (o : Option BurnOrder) (hout : (s.station i).StaysOut r)
      (hbank : (s.station i).Fits (s.order i) → r.callBank = (s.station i).callBank)
      (hfits : (s.station i).Fits (s.order i) → r.Fits o) : s.CallMove c ((s.setStation i r).setOrder i o)
  /-- R21: the call of station `i` is stored with the context `x`, and its bank unpinned. -/
  | store (i : StationId) (x : CallContext) (r : StationRecord) (o : Option BurnOrder)
      (hin : (s.station i).state ≠ .outOfService) (hbank : (s.station i).callBank = some x.bank) (hctx : r.context = none)
      (hfits : (s.station i).Fits (s.order i) → r.Fits o) :
      s.CallMove c ((((s.storeRecord i x).unpinBank x.bank).setStation i r).setOrder i o)
  /-- R11: a call is admitted at station `i`, and the ACTIVE bank pinned. -/
  | enterCall (i : StationId) (bank : BankId) (r : StationRecord)
      (hstate : (s.station i).state = .idle ∨ (s.station i).state = .ready) (hplace : s.rq.hasPlace = true)
      (hactive : s.activeBank = some bank) (hbank : r.callBank = some bank)
      (hfits : (s.station i).Fits (s.order i) → r.Fits (s.order i)) :
      s.CallMove c ({ s.pinBank bank with rq := s.rq.reserve }.setStation i r)
  /-- Every station record and every order is changed in place. -/
  | inPlace (f : StationRecord → StationRecord) (g : BurnOrder → BurnOrder) (hout : ∀ r : StationRecord, r.StaysOut (f r))
      (hbank : ∀ r : StationRecord, (f r).callBank = r.callBank)
      (hfits : ∀ (r : StationRecord) (o : Option BurnOrder), r.Fits o → (f r).Fits (o.map g)) :
      s.CallMove c { s with cc := s.cc.map f, de := { s.de with orders := s.de.orders.map (Option.map g) } }
  /-- R104: an entry is written to a bank that is not in use. -/
  | write (x : BankId) (b : Bank) (hbusy : (s.bank x).busy = false) (hstate : b.state = .standby)
      (hpins : b.pins = (s.bank x).pins) : s.CallMove c (s.setBank x b)
  /-- R115, R116. -/
  | activate (x : BankId) : s.CallMove c (s.activate x).2
  /-- R183. -/
  | service (v : Service) (h : v = .opened → s.activeBank ≠ none) :
      s.CallMove c { s with mu := { s.mu with service := v } }
  /-- R27: SET_STATION puts station `i` in. -/
  | putIn (hc : c = .setStation) (i : StationId) : s.CallMove c (s.putInService i)
  /-- R140: RELEASE_RECORDS removes the records up to a number. -/
  | release (hc : c = .releaseRecords) (n : Nat) : s.CallMove c { s with rq := s.rq.release n }
  /-- R5, log 9: a power event puts every block at its power-up state. -/
  | power (hc : ofPower c = true) (pins : Pins) (q : RecordQueue) (hplaces : q.reservations = 0)
      (hroom : s.rq.store.records.length ≤ recordRoom →
        q.records.length ≤ recordRoom ∧ q.store.records.length ≤ recordRoom) : s.CallMove c (s.atPowerUp pins q)
  /-- R142: a power event breaks the retained store. -/
  | vbak (hc : ofPower c = true) :
      s.CallMove c { s with rq := { s.rq with store := { s.rq.store with vbakHeld := false } } }

/-- A sequence of moves. -/
def State.CallMoves (c : Instr) (s t : State) : Prop := Relation.ReflTransGen (State.CallMove c) s t

theorem State.CallMoves.refl (c : Instr) (s : State) : s.CallMoves c s := Relation.ReflTransGen.refl

section
variable {c : Instr} {s t u : State} (h : s.CallMoves c t)
include h

theorem State.CallMoves.move (m : t.CallMove c u) : s.CallMoves c u := h.tail m

theorem State.CallMoves.same (hsame : t.SameCalls u) : s.CallMoves c u := h.move (.same hsame)

/-! ## Updates of the other blocks -/

theorem State.CallMoves.offerRow (f : RowOutFrame) : s.CallMoves c (t.offerRow f) := h.same ⟨rfl, rfl, rfl, rfl, rfl⟩

theorem State.CallMoves.tellStation (i : StationId) (m : RowMsg) : s.CallMoves c (t.tellStation i m) := h.offerRow _

theorem State.CallMoves.tellCard (i : StationId) (m : RowMsg) : s.CallMoves c (t.tellCard i m) := h.offerRow _

theorem State.CallMoves.offerLink (m : LinkMsg) : s.CallMoves c (t.offerLink m) := h.same ⟨rfl, rfl, rfl, rfl, rfl⟩

theorem State.CallMoves.refreshAttn : s.CallMoves c t.refreshAttn := h.same ⟨rfl, rfl, rfl, rfl, rfl⟩

theorem State.CallMoves.withCards (cs : List CardRecord) : s.CallMoves c (t.withCards cs) := h.same ⟨rfl, rfl, rfl, rfl, rfl⟩

theorem State.CallMoves.cards (d : CardTable) : s.CallMoves c { t with ct := d } := h.same ⟨rfl, rfl, rfl, rfl, rfl⟩

theorem State.CallMoves.rlc (r : RowLine) : s.CallMoves c { t with rlc := r } := h.same ⟨rfl, rfl, rfl, rfl, rfl⟩

theorem State.CallMoves.xlc (x : ExchangeLink) : s.CallMoves c { t with xlc := x } := h.same ⟨rfl, rfl, rfl, rfl, rfl⟩

theorem State.CallMoves.tb (b : TimeBase) : s.CallMoves c { t with tb := b } := h.same ⟨rfl, rfl, rfl, rfl, rfl⟩

theorem State.CallMoves.advancePointer : s.CallMoves c t.advancePointer := h.same ⟨rfl, rfl, rfl, rfl, rfl⟩

/-- What every turn keeps to moves, all in turn do. -/
theorem State.CallMoves.foldl {f : State → StationId → State} (hf : ∀ {u}, s.CallMoves c u → ∀ i, s.CallMoves c (f u i))
    (l : List StationId) : s.CallMoves c (l.foldl f t) :=
  List.foldlRecOn l f h fun _ hu i _ => hf hu i

/-! ## One station's record and order -/

variable {i : StationId} {r : StationRecord}

/-- The record alone changes. -/
theorem State.CallMoves.setStation (hout : (t.station i).StaysOut r) (hbank : r.callBank = (t.station i).callBank)
    (hfits : (t.station i).Fits (t.order i) → r.Fits (t.order i)) : s.CallMoves c (t.setStation i r) :=
  (h.move (.station i r (t.order i) hout (fun _ => hbank) hfits)).same ⟨rfl, (PerStation.set_get t.de.orders i).symm, rfl, rfl, rfl⟩

/-- The order alone changes. -/
theorem State.CallMoves.setOrder {o : Option BurnOrder} (hfits : (t.station i).Fits (t.order i) → (t.station i).Fits o) :
    s.CallMoves c (t.setOrder i o) := by
  have hmove := h.move (.station i (t.station i) o (fun hout => ⟨hout, rfl⟩) (fun _ => rfl) hfits)
  rwa [State.setStation_self] at hmove

end

end Sys2Proof.Machine

/-! # Stations and the call cycle (01): clears, cards and admissions as moves of the calls -/

namespace Sys2Proof.Machine

/-! ## Records on the way through a clear -/

section
variable {r : StationRecord} {o : Option BurnOrder} {x : CallContext}

@[simp] theorem StationRecord.cleared_callBank (r : StationRecord) (now : Nat) (c : EndCause) (released resolved : Bool) :
    (r.cleared now c released resolved).callBank = r.callBank := by
  simp only [StationRecord.callBank, StationRecord.cleared, Option.map_map]
  rfl

/-- R4, R16, R20: a call being cleared that may be due for completion. -/
structure StationRecord.Settling (r : StationRecord) (o : Option BurnOrder) (x : CallContext) : Prop where
  cls : 1 ≤ r.cls ∧ r.cls ≤ 3
  state : r.state = .clearing
  context : r.context = some x
  list : r.intervals = []
  answer : r.answerTimer = none
  head : r.headTimer = none
  release : r.releaseTimer.isSome = !x.released
  resolved : x.orderResolved = some o.isNone
  thenOut : r.thenOut = r.outReason.isSome
  cause : x.endCause.isSome = true

/-- A call in CLEARING is one that is not due for completion. -/
theorem StationRecord.fits_of_clearing (hs : r.state = .clearing) :
    r.Fits o ↔ ∃ x, r.Settling o x ∧ ¬(x.released = true ∧ o = none) := by
  rw [StationRecord.Fits, StationRecord.holds_of_clearing hs]
  constructor
  · rintro ⟨hcls, x, hctx, hlist, hanswer, hhead, hrelease, hresolved, hwait, hthen, hcause⟩
    exact ⟨x, ⟨hcls, hs, hctx, hlist, hanswer, hhead, hrelease, hresolved, hthen, hcause⟩, hwait⟩
  · rintro ⟨x, h, hwait⟩
    exact ⟨h.cls, x, h.context, h.list, h.answer, h.head, h.release, h.resolved, hwait, h.thenOut, h.cause⟩

/-- R15, R17, R20: a clear that starts. -/
theorem StationRecord.settling_cleared (hcls : 1 ≤ r.cls ∧ r.cls ≤ 3) (hctx : r.context = some x)
    (hthen : r.thenOut = r.outReason.isSome) (now : Nat) (c : EndCause) (released : Bool) :
    ∃ y, (r.cleared now c released o.isNone).Settling o y ∧ y.released = released := by
  refine ⟨CallContext.cleared now r c released o.isNone x, ⟨hcls, rfl, ?_, rfl, rfl, rfl, ?_, rfl, hthen, rfl⟩, rfl⟩
  · simp only [StationRecord.cleared, hctx, Option.map_some]
  · cases released <;> rfl

/-- R16: a call in CLEARING released. -/
theorem StationRecord.Settling.released (h : r.Settling o x) : r.released.Settling o { x with released := true } := by
  refine ⟨h.cls, h.state, ?_, h.list, h.answer, h.head, rfl, h.resolved, h.thenOut, h.cause⟩
  simp only [StationRecord.released, h.context, Option.map_some]

/-- R21: the station of a call that has been completed. -/
theorem StationRecord.Settling.leftCall (h : r.Settling o x) (hdone : x.orderResolved = some true) : r.leftCall.Fits o := by
  have ho : o = none := by
    have hnone := h.resolved.symm.trans hdone
    simpa using hnone
  have hcallless : r.leftCall.Callless o := ⟨rfl, h.list, ⟨h.answer, rfl, h.head⟩, ho, rfl⟩
  have hreason := h.thenOut
  refine ⟨h.cls, ?_⟩
  cases hthen : r.thenOut with
  | true =>
    rw [hthen] at hreason
    refine (StationRecord.holds_of_out ?_).2 ⟨?_, hcallless, hreason.symm⟩ <;> simp [StationRecord.leftCall, hthen]
  | false =>
    have hreason' : r.outReason = none := by
      rw [hthen] at hreason
      simpa using hreason.symm
    cases hcard : r.card with
    | none =>
      refine (StationRecord.holds_of_idle ?_).2 ⟨?_, hcallless, hreason'⟩ <;> simp [StationRecord.leftCall, hthen, hcard]
    | some y =>
      refine (StationRecord.holds_of_ready ?_).2 ⟨?_, hcallless, hreason'⟩ <;> simp [StationRecord.leftCall, hthen, hcard]

end

/-! ## Clearing -/

section
variable {c : Instr} {s t u : State} (h : s.CallMoves c t) {i : StationId}
include h

/-- R15: the part clears the call of station `i`, whose record has become `r` within the event. -/
theorem State.CallMoves.setStation_startClear {r : StationRecord} (cause : EndCause)
    (hin : (t.station i).state ≠ .outOfService) (hbank : r.callBank = (t.station i).callBank)
    (hfits : (t.station i).Fits (t.order i) → (1 ≤ r.cls ∧ r.cls ≤ 3) ∧ r.context.isSome = true ∧
      r.thenOut = r.outReason.isSome) : s.CallMoves c ((t.setStation i r).startClear i cause) := by
  rw [State.startClear_eq, State.mapStation, State.setStation_same, State.setStation_setStation]
  refine State.CallMoves.tellStation (State.CallMoves.offerLink (h.setStation (StationRecord.staysOut_of_in hin _) ?_ ?_) _) _ _
  · rw [StationRecord.cleared_callBank, hbank]
  · intro hr
    obtain ⟨hcls, hctx, hthen⟩ := hfits hr
    obtain ⟨x, hctx⟩ := Option.isSome_iff_exists.1 hctx
    obtain ⟨y, hsettling, hreleased⟩ := StationRecord.settling_cleared (o := t.order i) hcls hctx hthen t.elapsed cause false
    exact (StationRecord.fits_of_clearing rfl).2 ⟨y, hsettling, by simp [hreleased]⟩

theorem State.CallMoves.startClear (hcall : (t.station i).inCall = true) (cause : EndCause) :
    s.CallMoves c (t.startClear i cause) := by
  have hin : (t.station i).state ≠ .outOfService := fun hout => by simp [StationRecord.inCall, hout] at hcall
  have hclear := h.setStation_startClear (r := t.station i) cause hin rfl fun hr => by
    obtain ⟨x, hctx, hthen, hreason⟩ := hr.inCall hcall
    exact ⟨hr.1, by rw [hctx]; rfl, by rw [hthen, hreason]; rfl⟩
  rwa [State.setStation_self] at hclear

/-- R20, R21: record and order of station `i` have become `r` and `o`, and the clear completes if it is due. -/
theorem State.CallMoves.completeIfDone {r : StationRecord} {o : Option BurnOrder}
    (hu : ((t.setStation i r).setOrder i o).SameCalls u) (hin : (t.station i).state ≠ .outOfService)
    (hbank : r.callBank = (t.station i).callBank)
    (hfits : (t.station i).Fits (t.order i) → ∃ x, r.Settling o x) : s.CallMoves c (u.completeIfDone i) := by
  have hstation : u.station i = r := by
    rw [State.station, hu.cc]
    exact State.setStation_same t i r
  by_cases hdue : ∃ x, r.state = .clearing ∧ r.context = some x ∧ x.released = true ∧ x.orderResolved = some true
  · obtain ⟨x, hs, hctx, hreleased, hresolved⟩ := hdue
    rw [← hstation] at hs hctx
    rw [State.completeIfDone_of_done u i x hs hctx hreleased hresolved, State.complete_eq, hstation]
    rw [hstation] at hctx
    have hcallBank : (t.station i).callBank = some x.bank := by
      rw [← hbank, StationRecord.callBank, hctx]; rfl
    refine (h.move (.store i x r.leftCall o hin hcallBank rfl fun hr => ?_)).same ⟨?_, hu.orders, ?_, ?_, hu.service⟩
    · obtain ⟨y, hsettling⟩ := hfits hr
      obtain rfl : y = x := Option.some.inj (hsettling.context.symm.trans hctx)
      exact hsettling.leftCall hresolved
    · show u.cc.set i r.leftCall = t.cc.set i r.leftCall
      rw [hu.cc]
      exact PerStation.set_set t.cc i r _
    · show u.ts.setBank x.bank (u.ts.bank x.bank).unpinned = _
      rw [hu.ts]; rfl
    · show u.rq.append i x = _
      rw [hu.rq]; rfl
  · have hwaits : u.completeIfDone i = u := by
      obtain heq | ⟨x, hs, hctx, hreleased, hresolved, _⟩ := u.completeIfDone_cases i
      · exact heq
      · rw [hstation] at hs hctx
        exact (hdue ⟨x, hs, hctx, hreleased, hresolved⟩).elim
    rw [hwaits]
    refine (h.move (.station i r o (StationRecord.staysOut_of_in hin r) (fun _ => hbank) fun hr => ?_)).same hu
    obtain ⟨x, hsettling⟩ := hfits hr
    refine (StationRecord.fits_of_clearing hsettling.state).2 ⟨x, hsettling, fun ⟨hreleased, ho⟩ => ?_⟩
    exact hdue ⟨x, hsettling.state, hsettling.context, hreleased, by rw [hsettling.resolved, ho]; rfl⟩

/-- R17, R23: a clear that is released at its start. -/
theorem State.CallMoves.clearReleased (hcall : (t.station i).inCall = true) (cause : EndCause)
    (hu : (t.mapStation i (StationRecord.cleared t.elapsed cause true (t.orderFree i))).SameCalls u) :
    s.CallMoves c (u.completeIfDone i) := by
  have hin : (t.station i).state ≠ .outOfService := fun hout => by simp [StationRecord.inCall, hout] at hcall
  refine h.completeIfDone (o := t.order i) ⟨hu.cc, ?_, hu.ts, hu.rq, hu.service⟩ hin
    (StationRecord.cleared_callBank _ t.elapsed cause true _) fun hr => ?_
  · exact hu.orders.trans (PerStation.set_get t.de.orders i).symm
  · obtain ⟨x, hctx, hthen, hreason⟩ := hr.inCall hcall
    obtain ⟨y, hsettling, _⟩ := StationRecord.settling_cleared (o := t.order i) hr.1 hctx (by rw [hthen, hreason]; rfl)
      t.elapsed cause true
    exact ⟨y, hsettling⟩

theorem State.CallMoves.exchangeClear (hcall : (t.station i).inCall = true) (b : Byte) :
    s.CallMoves c (t.exchangeClear i b) :=
  h.clearReleased hcall (.exchangeClear b) ⟨rfl, rfl, rfl, rfl, rfl⟩

theorem State.CallMoves.clearLinkDown (hcall : (t.station i).inCall = true) : s.CallMoves c (t.clearLinkDown i) :=
  h.clearReleased hcall .linkDown ⟨rfl, rfl, rfl, rfl, rfl⟩

/-- R16: a call in CLEARING is released once. -/
theorem State.CallMoves.releaseCall (hs : (t.station i).state = .clearing) : s.CallMoves c (t.releaseCall i) := by
  unfold State.releaseCall
  split
  next x hctx =>
    split
    next => exact h
    next =>
      refine h.completeIfDone (r := (t.station i).released) (o := t.order i)
        ⟨rfl, (PerStation.set_get t.de.orders i).symm, rfl, rfl, rfl⟩ (by rw [hs]; nofun) ?_ fun hr => ?_
      · simp only [StationRecord.callBank, StationRecord.released, Option.map_map]
        rfl
      · obtain ⟨y, hsettling, _⟩ := (StationRecord.fits_of_clearing hs).1 hr
        exact ⟨_, hsettling.released⟩
  next => exact h

theorem State.CallMoves.linkDownStation : s.CallMoves c (t.linkDownStation i) := by
  unfold State.linkDownStation
  split
  next hs => exact h.clearLinkDown ((StationRecord.inCall_iff _).2 (.inl hs))
  next hs => exact h.clearLinkDown ((StationRecord.inCall_iff _).2 (.inr hs))
  next hs => exact h.releaseCall hs
  all_goals exact h

theorem State.CallMoves.exchangeClears (b : Byte) : s.CallMoves c (t.exchangeClears i b) := by
  unfold State.exchangeClears
  split
  next hs => exact h.exchangeClear ((StationRecord.inCall_iff _).2 (.inl hs)) b
  next hs => exact h.exchangeClear ((StationRecord.inCall_iff _).2 (.inr hs)) b
  next hs => exact h.releaseCall hs
  all_goals exact h.offerLink _

theorem State.CallMoves.exchangeReleases : s.CallMoves c (t.exchangeReleases i) := by
  unfold State.exchangeReleases
  split
  next hs => exact h.releaseCall hs
  next => exact h

/-! ## Out of service -/

/-- R25. -/
theorem State.CallMoves.takeOut (w : OutReason) : s.CallMoves c (t.takeOut i w) := by
  cases hs : (t.station i).state with
  | outOfService => rwa [State.takeOut_of_out w hs]
  | idle =>
    rw [State.takeOut_of_idle w hs]
    refine State.CallMoves.tellStation (h.setStation (StationRecord.staysOut_of_in (by rw [hs]; nofun) _) ?_ fun hr => ?_) _ _
    · rfl
    · obtain ⟨hcard, hcallless, _⟩ := (StationRecord.holds_of_idle hs).1 hr.2
      exact ⟨hr.1, (StationRecord.holds_of_out rfl).2 ⟨hcard, hcallless, rfl⟩⟩
  | ready =>
    rw [State.takeOut_of_ready w hs, State.removeCard_eq, State.setStation_setStation]
    have hleft := h.withCards (t.cardsLeft i)
    refine State.CallMoves.tellStation (hleft.setStation (StationRecord.staysOut_of_in (by simp [hs]) _) ?_ fun hr => ?_) _ _
    · rfl
    · obtain ⟨_, hcallless, _⟩ := (StationRecord.holds_of_ready hs).1 hr.2
      exact ⟨hr.1, (StationRecord.holds_of_out rfl).2 ⟨rfl, hcallless, rfl⟩⟩
  | setup | talk =>
    rw [State.takeOut_of_call w (by simp [hs])]
    refine State.CallMoves.tellStation (h.setStation_startClear _ (by rw [hs]; nofun) ?_ fun hr => ?_) _ _
    · rfl
    · obtain ⟨x, hctx, _, _⟩ := hr.inCall (by simp [StationRecord.inCall, hs])
      exact ⟨hr.1, by simp [hctx], rfl⟩
  | clearing =>
    rw [State.takeOut_of_clearing w hs]
    refine State.CallMoves.tellStation ?_ _ _
    split
    next => exact h
    next =>
      refine h.setStation (StationRecord.staysOut_of_in (by rw [hs]; nofun) _) ?_ fun hr => ?_
      · rfl
      obtain ⟨x, hst, hwait⟩ := (StationRecord.fits_of_clearing hs).1 hr
      exact (StationRecord.fits_of_clearing (r := { t.station i with thenOut := true, outReason := some w }) hs).2 ⟨x,
        ⟨hst.cls, hs, hst.context, hst.list, hst.answer, hst.head, hst.release, hst.resolved, rfl, hst.cause⟩, hwait⟩

/-- R184: a class in range is written, then the mode acts. -/
theorem State.CallMoves.setMode (hc : c = .setStation) {k : Nat} (hk : 1 ≤ k ∧ k ≤ 3) (m : Mode) :
    s.CallMoves c (t.setMode i k m) := by
  have hcls : s.CallMoves c (t.mapStation i fun r => { r with cls := k }) :=
    h.setStation (fun hout => ⟨hout, rfl⟩) rfl fun hr => ⟨hk, hr.2⟩
  cases m with
  | into => exact hcls.move (.putIn hc i)
  | out => exact hcls.takeOut .takenOut

/-! ## Cards leaving their stations -/

/-- R7, R24: a READY station that loses its card is IDLE. -/
theorem State.CallMoves.loseCard_of_ready (hs : (t.station i).state = .ready) :
    s.CallMoves c (t.setStation i { t.station i with card := none, state := .idle }) := by
  refine h.setStation (StationRecord.staysOut_of_in (by rw [hs]; nofun) _) ?_ fun hr => ?_
  · rfl
  · obtain ⟨_, hcallless, hreason⟩ := (StationRecord.holds_of_ready hs).1 hr.2
    exact ⟨hr.1, (StationRecord.holds_of_idle rfl).2 ⟨rfl, hcallless, hreason⟩⟩

/-- R7, R24: a call that loses its card is cleared. -/
theorem State.CallMoves.loseCard_of_call (hcall : (t.station i).inCall = true) (cause : EndCause) :
    s.CallMoves c ((t.setStation i { t.station i with card := none }).startClear i cause) := by
  refine h.setStation_startClear cause (fun hout => by simp [StationRecord.inCall, hout] at hcall) ?_ fun hr => ?_
  · rfl
  · obtain ⟨x, hctx, hthen, hreason⟩ := hr.inCall hcall
    exact ⟨hr.1, by simp [hctx], by simp [hthen, hreason]⟩

/-- R7, R24: any other station goes on without it. -/
theorem State.CallMoves.loseCard_of_other (hready : (t.station i).state ≠ .ready) (hcall : (t.station i).inCall = false) :
    s.CallMoves c (t.setStation i { t.station i with card := none }) := by
  refine h.setStation (fun hout => ⟨hout, rfl⟩) ?_ fun hr => ⟨hr.1, ?_⟩
  · rfl
  generalize ht : t.station i = r at *
  cases hs : r.state with
  | ready => exact (hready hs).elim
  | setup | talk => simp [StationRecord.inCall, hs] at hcall
  | idle =>
    obtain ⟨_, hcallless⟩ := (StationRecord.holds_of_idle hs).1 hr.2
    exact (StationRecord.holds_of_idle (r := { r with card := none }) hs).2 ⟨rfl, hcallless⟩
  | outOfService =>
    obtain ⟨_, hcallless⟩ := (StationRecord.holds_of_out hs).1 hr.2
    exact (StationRecord.holds_of_out (r := { r with card := none }) hs).2 ⟨rfl, hcallless⟩
  | clearing =>
    exact (StationRecord.holds_of_clearing (r := { r with card := none }) hs).2 ((StationRecord.holds_of_clearing hs).1 hr.2)

/-- R7. -/
theorem State.CallMoves.cardOut : s.CallMoves c (t.cardOut i) := by
  have hleft := h.withCards (t.cardsLeft i)
  unfold State.cardOut
  split
  next hs _ =>
    rw [State.removeCard_eq, State.mapStation, State.setStation_same, State.setStation_setStation]
    exact hleft.loseCard_of_ready hs
  next hs _ =>
    rw [State.removeCard_eq]
    exact hleft.loseCard_of_call ((StationRecord.inCall_iff _).2 (.inl hs)) .cardOut
  next hs _ =>
    rw [State.removeCard_eq]
    exact hleft.loseCard_of_call ((StationRecord.inCall_iff _).2 (.inr hs)) .cardOut
  next hs _ =>
    rw [State.removeCard_eq]
    exact hleft.loseCard_of_other (i := i) (by simp [hs]) (by simp [StationRecord.inCall, hs])
  next => exact h

/-- R24, R73. -/
theorem State.CallMoves.barCard (x : Serial) (code : Byte) : s.CallMoves c (t.barCard i x code) := by
  have hleft := (h.withCards (rememberCard x t.ct.cards)).tellCard i (.cardRefused (.barred code))
  unfold State.barCard State.lostToBar
  dsimp only
  rw [State.mapStation, State.setStation_same]
  split
  next hs =>
    rw [State.mapStation, State.setStation_same, State.setStation_setStation]
    exact hleft.loseCard_of_ready hs
  next hs => exact hleft.loseCard_of_call ((StationRecord.inCall_iff _).2 (.inl hs)) .barredCard
  next hs => exact hleft.loseCard_of_call ((StationRecord.inCall_iff _).2 (.inr hs)) .barredCard
  all_goals
    next hs =>
      exact hleft.loseCard_of_other (i := i) (fun hready => by cases hs.symm.trans hready)
        (by rw [← Bool.not_eq_true, StationRecord.inCall_iff]; rintro (hc | hc) <;> cases hs.symm.trans hc)

end

/-! ## Cards and calls admitted -/

section
variable {c : Instr} {s t : State} (h : s.CallMoves c t) (i : StationId)
include h

/-- R74: the cards of a range are barred. -/
theorem State.CallMoves.barRange (r : HotRange) : s.CallMoves c (t.barRange r) := by
  refine h.foldl (fun {u} hu i => ?_) stationIds
  obtain ⟨_, _, _, _, heq⟩ | ⟨heq, _⟩ := u.barIfCovered_cases r i <;> rw [heq]
  · exact hu.barCard _ _
  · exact hu

/-- R75, R76. -/
theorem State.CallMoves.countStrike (x : Serial) : s.CallMoves c (t.countStrike x) := by
  have hstruck := h.withCards (changeCard x CardRecord.strike t.ct.cards)
  unfold State.countStrike
  dsimp only
  split
  next =>
    split
    next =>
      split
      next => exact (hstruck.cards _).barCard x 0
      next => exact hstruck.cards _
    next => exact hstruck
  next => exact hstruck

/-- R90: the orders of a card are settled. -/
theorem State.CallMoves.settle (x : Serial) : s.CallMoves c { t with de := t.de.settle x } := by
  have hmove := h.move (.inPlace id (fun b => if b.serial = x then { b with settled := true } else b)
    (fun _ hout => ⟨hout, rfl⟩) (fun _ => rfl) fun r o hr => hr.of_order (by cases o <;> rfl))
  refine hmove.same ⟨?_, rfl, rfl, rfl, rfl⟩
  exact (PerStation.ext_get _ _ fun j => by simp).symm

/-- R71: a card is admitted at an IDLE station. -/
theorem State.CallMoves.acceptCard (x : Serial) (batch units : Nat) (hs : (t.station i).state = .idle) :
    s.CallMoves c (t.acceptCard i x batch units) := by
  have hsettled := (h.withCards (activateCard i x batch units t.ct.cards)).settle x
  refine State.CallMoves.tellCard (hsettled.setStation (StationRecord.staysOut_of_in ?_ _) ?_ fun hr => ?_) i (.cardOk units)
  · intro hout
    cases hs.symm.trans hout
  · rfl
  · obtain ⟨_, hcallless, hreason⟩ := (StationRecord.holds_of_idle hs).1 hr.2
    exact ⟨hr.1, (StationRecord.holds_of_ready rfl).2 ⟨rfl, hcallless, hreason⟩⟩

theorem State.CallMoves.judgeCard (x : Serial) (batch units : Nat) : s.CallMoves c (t.judgeCard i x batch units) := by
  unfold State.judgeCard
  split
  next hcheck =>
    obtain ⟨hidle, _⟩ := (t.cardCheck_eq_none_iff i x batch units).1 hcheck
    exact h.acceptCard i x batch units hidle
  next r _ =>
    refine State.CallMoves.tellCard ?_ i _
    split
    next => exact h.countStrike x
    next => exact h

omit h in
/-- R9 steps 4 and 6: a call is admitted on the ACTIVE bank, with a place for its record and, if CHARGED, a card. -/
theorem State.callCheck_eq_ok {digits : List Digit} {bank : BankId} {k : CallKind}
    (hcheck : t.callCheck i digits = .ok (bank, k)) :
    t.activeBank = some bank ∧ t.rq.hasPlace = true ∧ (k ≠ .free → (t.station i).card.isSome = true) := by
  have hjudged : t.judgeDialled i digits = .ok (bank, k) ∧ t.rq.hasPlace = true := by
    unfold State.callCheck at hcheck
    split at hcheck
    next => cases hcheck
    split at hcheck
    next => cases hcheck
    split at hcheck
    next => cases hcheck
    split at hcheck
    next => cases hcheck
    split at hcheck
    next => cases hcheck
    next hj =>
      split at hcheck
      next => cases hcheck
      next hplace =>
        split at hcheck
        next => cases hcheck
        next => cases hcheck; exact ⟨hj, by simpa using hplace⟩
  obtain ⟨hj, hplace⟩ := hjudged
  unfold State.judgeDialled at hj
  split at hj
  next => cases hj
  next x hactive =>
    split at hj
    next => cases hj
    next => cases hj
    next => cases hj; exact ⟨hactive, hplace, fun hk => (hk rfl).elim⟩
    next b _ =>
      split at hj
      next => cases hj
      next hcard =>
        split at hj
        next => cases hj
        next => cases hj; exact ⟨hactive, hplace, fun _ => by simpa [Option.isSome_iff_ne_none] using hcard⟩

/-- R11. -/
theorem State.CallMoves.judgeNumber (digits : List Digit) : s.CallMoves c (t.judgeNumber i digits) := by
  unfold State.judgeNumber
  split
  next bank k hcheck =>
    obtain ⟨hactive, hplace, hcard⟩ := State.callCheck_eq_ok i hcheck
    have hstate := State.callCheck_state i hcheck
    rw [State.openCall_eq]
    refine State.CallMoves.offerLink (h.move (.enterCall i bank _ hstate hplace hactive ?_ fun hr => ?_)) _
    · rfl
    have hidle : (t.station i).Callless (t.order i) ∧ (t.station i).outReason = none := by
      obtain hs | hs := hstate
      · exact ((StationRecord.holds_of_idle hs).1 hr.2).2
      · exact ((StationRecord.holds_of_ready hs).1 hr.2).2
    obtain ⟨⟨_, hlist, ⟨_, hrelease, hhead⟩, ho, hthen⟩, hreason⟩ := hidle
    exact ⟨hr.1, (StationRecord.holds_of_setup rfl).2 ⟨_, rfl, hlist, rfl, hrelease, hhead, ho, hthen, hreason, rfl, hcard⟩⟩
  next => exact h.tellStation i _

end

end Sys2Proof.Machine

/-! # Stations and the call cycle (01): orders, outcomes, answers and intervals as moves of the calls -/

namespace Sys2Proof.Machine

/-! ## Records of a call that goes on -/

/-- The call of `x` goes on in `y`: only its counts, its final mark and what was noted at the answer may differ. -/
structure CallContext.GoesOn (x y : CallContext) : Prop where
  bank : y.bank = x.bank
  kind : y.kind = x.kind
  answerMark : y.answerMark = x.answerMark
  talkDuration : y.talkDuration = x.talkDuration
  endCause : y.endCause = x.endCause
  released : y.released = x.released
  orderResolved : y.orderResolved = x.orderResolved

theorem BurnOrder.totals_goesOn (o : BurnOrder) (out : OrderOutcome) (x : CallContext) : x.GoesOn (o.totals out x) := by
  cases out <;> exact ⟨rfl, rfl, rfl, rfl, rfl, rfl, rfl⟩

theorem StationRecord.callBank_mapContext (r : StationRecord) {f : CallContext → CallContext} (hf : ∀ x, (f x).bank = x.bank) :
    { r with context := r.context.map f }.callBank = r.callBank := by
  simp only [StationRecord.callBank, Option.map_map, Function.comp_def, hf]

section
variable {r : StationRecord} {o : Option BurnOrder} (h : r.Fits o)
include h

theorem StationRecord.Fits.mapContext {f : CallContext → CallContext} (hf : ∀ x : CallContext, x.GoesOn (f x)) :
    { r with context := r.context.map f }.Fits o := by
  suffices hholds : ∀ state, r.state = state → { r with context := r.context.map f }.Holds o from ⟨h.1, hholds _ rfl⟩
  intro state hs
  cases state with
  | idle =>
    obtain ⟨hcard, ⟨hctx, hlist, htimers, ho, hthen⟩, hreason⟩ := (StationRecord.holds_of_idle hs).1 h.2
    exact (StationRecord.holds_of_idle (r := { r with context := r.context.map f }) hs).2
      ⟨hcard, ⟨by rw [hctx]; rfl, hlist, htimers, ho, hthen⟩, hreason⟩
  | ready =>
    obtain ⟨hcard, ⟨hctx, hlist, htimers, ho, hthen⟩, hreason⟩ := (StationRecord.holds_of_ready hs).1 h.2
    exact (StationRecord.holds_of_ready (r := { r with context := r.context.map f }) hs).2
      ⟨hcard, ⟨by rw [hctx]; rfl, hlist, htimers, ho, hthen⟩, hreason⟩
  | outOfService =>
    obtain ⟨hcard, ⟨hctx, hlist, htimers, ho, hthen⟩, hreason⟩ := (StationRecord.holds_of_out hs).1 h.2
    exact (StationRecord.holds_of_out (r := { r with context := r.context.map f }) hs).2
      ⟨hcard, ⟨by rw [hctx]; rfl, hlist, htimers, ho, hthen⟩, hreason⟩
  | setup =>
    obtain ⟨x, hctx, hrest⟩ := (StationRecord.holds_of_setup hs).1 h.2
    refine (StationRecord.holds_of_setup (r := { r with context := r.context.map f }) hs).2 ⟨f x, by rw [hctx]; rfl, ?_⟩
    rwa [(hf x).talkDuration, (hf x).kind]
  | talk =>
    obtain ⟨x, hctx, hconnected, hrest⟩ := (StationRecord.holds_of_talk hs).1 h.2
    refine (StationRecord.holds_of_talk (r := { r with context := r.context.map f }) hs).2
      ⟨f x, by rw [hctx]; rfl, ?_, ?_⟩
    · unfold StationRecord.Connected at hconnected ⊢
      rwa [(hf x).kind]
    · rwa [(hf x).answerMark, (hf x).talkDuration]
  | clearing =>
    obtain ⟨x, hctx, hclearing⟩ := (StationRecord.holds_of_clearing hs).1 h.2
    refine (StationRecord.holds_of_clearing (r := { r with context := r.context.map f }) hs).2 ⟨f x, by rw [hctx]; rfl, ?_⟩
    unfold StationRecord.Clearing at hclearing ⊢
    rwa [(hf x).released, (hf x).orderResolved, (hf x).endCause]

/-- R78: no order is held but for a call in TALK or CLEARING. -/
theorem StationRecord.Fits.order_eq_none (htalk : r.state ≠ .talk) (hclearing : r.state ≠ .clearing) : o = none := by
  cases hs : r.state with
  | idle =>
    obtain ⟨_, ⟨_, _, _, ho, _⟩, _⟩ := (StationRecord.holds_of_idle hs).1 h.2
    exact ho
  | ready =>
    obtain ⟨_, ⟨_, _, _, ho, _⟩, _⟩ := (StationRecord.holds_of_ready hs).1 h.2
    exact ho
  | outOfService =>
    obtain ⟨_, ⟨_, _, _, ho, _⟩, _⟩ := (StationRecord.holds_of_out hs).1 h.2
    exact ho
  | setup =>
    obtain ⟨_, _, _, _, _, _, ho, _⟩ := (StationRecord.holds_of_setup hs).1 h.2
    exact ho
  | talk => exact (htalk hs).elim
  | clearing => exact (hclearing hs).elim

variable (hs : r.state = .talk)
include hs

/-- R30: the list of a call in TALK is cut, or its entries paid. -/
theorem StationRecord.Fits.withList {l : List Interval} (hlength : l.length ≤ r.intervals.length)
    (hnil : l = [] → r.intervals = []) : { r with intervals := l }.Fits o := by
  obtain ⟨x, hctx, hconnected, hrest⟩ := (StationRecord.holds_of_talk hs).1 h.2
  refine ⟨h.1, (StationRecord.holds_of_talk (r := { r with intervals := l }) hs).2 ⟨x, hctx, ?_, hrest⟩⟩
  unfold StationRecord.Connected at hconnected ⊢
  split at hconnected
  next =>
    obtain ⟨hlist, hhead, ho⟩ := hconnected
    rw [hlist, List.length_nil, Nat.le_zero, List.length_eq_zero_iff] at hlength
    exact ⟨hlength, hhead, ho⟩
  next =>
    obtain ⟨hlow, hhigh, hhead, hcard⟩ := hconnected
    refine ⟨List.length_pos_iff.2 fun hl => ?_, hlength.trans hhigh, hhead, hcard⟩
    rw [hnil hl] at hlow
    exact absurd hlow (by decide)

/-- R88: the order of a call in TALK ends. -/
theorem StationRecord.Fits.orderEnds : r.Fits none := by
  obtain ⟨x, hctx, hconnected, hrest⟩ := (StationRecord.holds_of_talk hs).1 h.2
  refine ⟨h.1, (StationRecord.holds_of_talk hs).2 ⟨x, hctx, ?_, hrest⟩⟩
  unfold StationRecord.Connected at hconnected ⊢
  split at hconnected
  next =>
    obtain ⟨hlist, hhead, _⟩ := hconnected
    exact ⟨hlist, hhead, rfl⟩
  next => exact hconnected

/-- R39, R40: the next interval of the list becomes its head. -/
theorem StationRecord.Fits.beginHead {e : Interval} {rest : List Interval} (htail : r.intervals.tail = e :: rest) :
    (StationRecord.beginHead e rest r).Fits o := by
  obtain ⟨x, hctx, hconnected, hrest⟩ := (StationRecord.holds_of_talk hs).1 h.2
  refine ⟨h.1, (StationRecord.holds_of_talk (r := StationRecord.beginHead e rest r) hs).2
    ⟨_, congrArg (Option.map _) hctx, ?_, hrest⟩⟩
  have hlength : (e :: rest).length ≤ r.intervals.length := by
    rw [← htail, List.length_tail]
    exact Nat.sub_le _ _
  unfold StationRecord.Connected at hconnected ⊢
  cases hkind : x.kind with
  | free =>
    simp only [hkind] at hconnected
    rw [hconnected.1] at htail
    exact absurd htail (by simp)
  | charged b =>
    simp only [hkind] at hconnected ⊢
    obtain ⟨_, hhigh, _, hcard⟩ := hconnected
    exact ⟨Nat.le_add_left 1 _, hlength.trans hhigh, rfl, hcard⟩

variable {x : CallContext} (hctx : r.context = some x) {b : Band} (hkind : x.kind = .charged b)
include hctx hkind

/-- R30, R33: what a CHARGED call in TALK has. -/
theorem StationRecord.Fits.charged :
    1 ≤ r.intervals.length ∧ r.intervals.length ≤ 4 ∧ r.headTimer.isSome = true ∧ r.card.isSome = true := by
  obtain ⟨y, hctx', hconnected, _⟩ := (StationRecord.holds_of_talk hs).1 h.2
  obtain rfl : y = x := Option.some.inj (hctx'.symm.trans hctx)
  simpa only [StationRecord.Connected, hkind] using hconnected

/-- A CHARGED call in TALK goes on with another list of 1 to 4 entries, and may hold an order. -/
theorem StationRecord.Fits.withBlock {l : List Interval} (hlow : 1 ≤ l.length) (hhigh : l.length ≤ 4)
    (p : Option BurnOrder) : { r with intervals := l }.Fits p := by
  obtain ⟨_, _, hhead, hcard⟩ := h.charged hs hctx hkind
  obtain ⟨y, hctx', _, hrest⟩ := (StationRecord.holds_of_talk hs).1 h.2
  obtain rfl : y = x := Option.some.inj (hctx'.symm.trans hctx)
  refine ⟨h.1, (StationRecord.holds_of_talk (r := { r with intervals := l }) hs).2 ⟨y, hctx, ?_, hrest⟩⟩
  simp only [StationRecord.Connected, hkind]
  exact ⟨hlow, hhigh, hhead, hcard⟩

end

/-! ## The lists that outcomes leave are no longer -/

theorem length_coverFrom_le (b : Nat) (l : List Interval) : (coverFrom b l).length ≤ l.length := by
  induction l generalizing b with
  | nil => exact le_rfl
  | cons e es ih =>
    unfold coverFrom
    split
    next => exact Nat.succ_le_succ (ih b)
    next =>
      split
      next => exact Nat.succ_le_succ (ih _)
      next => exact Nat.zero_le _

theorem length_keepPaid_le (l : List Interval) : (keepPaid l).length ≤ l.length := List.length_filter_le _ _

theorem length_coverShort_le (due b : Nat) (l : List Interval) : (coverShort due b l).length ≤ l.length := by
  unfold coverShort
  split
  next => exact length_keepPaid_le l
  next => exact length_coverFrom_le _ l

theorem length_pricedBlock (j : Nat) (e : BandEntry) : (pricedBlock j e).length = j := List.length_replicate

/-! ## Outcomes -/

section
variable {c : Instr} {s t : State} (h : s.CallMoves c t) {i : StationId}
include h

/-- The call of station `i` goes on, with another context. -/
theorem State.CallMoves.mapContext {f : CallContext → CallContext} (hf : ∀ x : CallContext, x.GoesOn (f x)) :
    s.CallMoves c (t.mapContext i f) :=
  h.setStation (fun hout => ⟨hout, rfl⟩) (StationRecord.callBank_mapContext _ fun x => (hf x).bank)
    fun hr => hr.mapContext hf

theorem State.CallMoves.markFinal (cause : FinalCause) : s.CallMoves c (t.markFinal i cause) :=
  (h.mapContext (f := fun x => { x with finalMark := some cause }) fun _ => ⟨rfl, rfl, rfl, rfl, rfl, rfl, rfl⟩).tellStation
    i _

/-- R46, R47. -/
theorem State.CallMoves.cutBack (hs : (t.station i).state = .talk) {l : List Interval}
    (hlength : l.length ≤ (t.station i).intervals.length) (cause : FinalCause) : s.CallMoves c (t.cutBack i l cause) := by
  have hin : (t.station i).state ≠ .outOfService := by rw [hs]; nofun
  unfold State.cutBack
  dsimp only
  split
  next =>
    refine h.setStation_startClear _ hin ?_ fun hr => ?_
    · rfl
    · obtain ⟨x, hctx, hthen, hreason⟩ := hr.inCall (by simp [StationRecord.inCall, hs])
      exact ⟨hr.1, by simp [hctx], by simp [hthen, hreason]⟩
  next hleft =>
    have hne : l ≠ [] := by simpa using hleft
    refine State.CallMoves.markFinal (h.setStation (StationRecord.staysOut_of_in hin _) ?_ fun hr => ?_) cause
    · rfl
    · exact hr.withList hs hlength fun hl => (hne hl).elim

theorem State.CallMoves.outcomeInTalk (hs : (t.station i).state = .talk) (o : BurnOrder) (out : OrderOutcome)
    (x : CallContext) : s.CallMoves c (t.outcomeInTalk i o out x) := by
  cases out with
  | full now =>
    refine h.setStation (StationRecord.staysOut_of_in (by rw [hs]; nofun) _) ?_ fun hr => ?_
    · rfl
    · exact hr.withList hs (by simp [payAll]) fun hl => by simpa [payAll] using hl
  | short b now => exact h.cutBack hs (length_coverShort_le _ _ _) _
  | undelivered => exact h.cutBack hs (length_keepPaid_le _) _
  | timedOut => exact h.cutBack hs (length_keepPaid_le _) _

/-- R20, R48: in CLEARING the order has ended and is resolved, whatever the outcome did to the totals. -/
theorem State.CallMoves.resolveOrder (hs : (t.station i).state = .clearing) {f : CallContext → CallContext}
    (hf : ∀ x : CallContext, x.GoesOn (f x)) :
    s.CallMoves c (((t.setOrder i none).mapContext i f).resolveOrder i) := by
  refine h.completeIfDone (o := none) (r := { t.station i with
    context := ((t.station i).context.map f).map fun x => { x with orderResolved := some true } }) ?_ (by rw [hs]; nofun)
    ?_ fun hr => ?_
  · refine ⟨?_, rfl, rfl, rfl, rfl⟩
    simp only [State.mapContext_cc, State.mapContext_same, PerStation.set_set]
    rfl
  · simp only [StationRecord.callBank, Option.map_map, Function.comp_def, (hf _).bank]
  · obtain ⟨x, hst, _⟩ := (StationRecord.fits_of_clearing hs).1 hr
    refine ⟨{ f x with orderResolved := some true }, hst.cls, hs, by rw [hst.context]; rfl, hst.list, hst.answer, hst.head, ?_,
      rfl, hst.thenOut, ?_⟩
    · exact hst.release.trans (by rw [(hf x).released])
    · exact (congrArg Option.isSome (hf x).endCause).trans hst.cause

/-- R44: the order of station `i` has ended, and the CC acts on its outcome. -/
theorem State.CallMoves.outcomeToCall (o : BurnOrder) (out : OrderOutcome) :
    s.CallMoves c ((t.setOrder i none).outcomeToCall i o out) := by
  have hf := o.totals_goesOn out
  unfold State.outcomeToCall
  dsimp only
  rw [State.setOrder_station]
  split
  next x hs _ =>
    refine State.CallMoves.outcomeInTalk ((h.setOrder fun hr => hr.orderEnds hs).mapContext hf) ?_ o out x
    rw [State.mapContext_same]
    exact hs
  next hs => exact h.resolveOrder hs hf
  next hclearing htalk =>
    refine State.CallMoves.mapContext (h.setOrder fun hr => ?_) hf
    refine hr.of_order ?_
    rw [hr.order_eq_none (fun hs => ?_) hclearing]
    obtain ⟨x, hctx, _⟩ := (StationRecord.holds_of_talk hs).1 hr.2
    exact htalk x hs hctx

/-- R88. -/
theorem State.CallMoves.outcomeSteps (o : BurnOrder) (out : OrderOutcome) : s.CallMoves c (t.outcomeSteps i o out) := by
  have hupdated : s.CallMoves c (t.cardUpdate o out) := by
    unfold State.cardUpdate
    split
    next => exact h
    next => exact h.withCards _
  have hcounted : s.CallMoves c ((t.cardUpdate o out).countFailure i out) := hupdated.same ⟨rfl, rfl, rfl, rfl, rfl⟩
  have hcall := hcounted.outcomeToCall (i := i) o out
  rw [State.outcomeSteps_eq]
  split
  next => exact hcall.takeOut _
  next => exact hcall

/-! ## Issue and replenishment -/

section
variable (hs : (t.station i).state = .talk) {x : CallContext} (hctx : (t.station i).context = some x) {b : Band}
  (hkind : x.kind = .charged b)
include hs hctx hkind

/-- R79, R80: an order for a CHARGED call in TALK is held, and its frame queued or UNDELIVERED. -/
theorem State.CallMoves.issueOrder (card : Serial) (units : Nat) (p : Purpose) :
    s.CallMoves c (t.issueOrder i card units p) := by
  have hheld : s.CallMoves c { t with de := { t.de with
      orders := t.de.orders.set i (some (t.de.newOrder card units p)),
      tagCounter := nextTag (t.de.newOrder card units p).tag } } := by
    refine State.CallMoves.same (h.setOrder (o := some (t.de.newOrder card units p)) fun hr => ?_)
      ⟨rfl, rfl, rfl, rfl, rfl⟩
    obtain ⟨hlow, hhigh, _⟩ := hr.charged hs hctx hkind
    exact hr.withBlock hs hctx hkind hlow hhigh _
  unfold State.issueOrder
  dsimp only
  split
  next => exact hheld.offerRow _
  next => exact hheld.outcomeSteps _ _

/-- R37, R38: of a list of one entry, at most three more are priced. -/
theorem State.CallMoves.replenish {e : Interval} (hlist : (t.station i).intervals = [e]) (bank : BankId) (d : Band)
    (card : Serial) : s.CallMoves c (t.replenish i bank d card) := by
  unfold State.replenish
  dsimp only
  split
  next => exact h.markFinal _
  next hj =>
    refine State.CallMoves.issueOrder (h.setStation (StationRecord.staysOut_of_in (by rw [hs]; nofun) _) ?_ fun hr => ?_)
      (by rw [State.setStation_same]; exact hs) (by rw [State.setStation_same]; exact hctx) hkind _ _ _
    · rfl
    · have hcls : payable (t.station i).cls (t.lowerBound card) (t.priceNow bank d).units ≤ 3 :=
        (min_le_left _ _).trans hr.1.2
      refine hr.withBlock hs hctx hkind ?_ ?_ _ <;> rw [hlist, List.length_append, length_pricedBlock, List.length_singleton]
      · exact Nat.le_add_right 1 _
      · omega

end

/-- R36. -/
theorem State.CallMoves.considerReplenish : s.CallMoves c (t.considerReplenish i) := by
  unfold State.considerReplenish
  split
  next x _ hs hctx _ =>
    split
    next hkind =>
      split
      next hdue =>
        obtain ⟨⟨e, hlist, _⟩, _⟩ := (t.replenishDue_iff i x).1 hdue
        exact h.replenish hs hctx hkind hlist _ _ _
      next => exact h
    next => exact h
  next => exact h

/-- R88. -/
theorem State.CallMoves.takeOutcome (o : BurnOrder) (out : OrderOutcome) : s.CallMoves c (t.takeOutcome i o out) := by
  cases out with
  | full now => exact (h.outcomeSteps o _).considerReplenish
  | short b now => exact h.outcomeSteps o _
  | undelivered => exact h.outcomeSteps o _
  | timedOut => exact h.outcomeSteps o _

/-! ## The answer -/

/-- R12: a FREE call enters TALK. -/
theorem State.CallMoves.answerFree (hs : (t.station i).state = .setup) {x : CallContext}
    (hctx : (t.station i).context = some x) (hkind : x.kind = .free) : s.CallMoves c (t.answerFree i) := by
  refine State.CallMoves.tellStation (h.setStation (StationRecord.staysOut_of_in (by rw [hs]; nofun) _) ?_ fun hr => ?_) i _
  · exact StationRecord.callBank_mapContext (t.station i) fun _ => rfl
  · obtain ⟨y, hctx', hlist, _, hrelease, hhead, ho, hthen, hreason, htalked, _⟩ := (StationRecord.holds_of_setup hs).1 hr.2
    obtain rfl : y = x := Option.some.inj (hctx'.symm.trans hctx)
    refine ⟨hr.1, (StationRecord.holds_of_talk rfl).2 ⟨y.answer t.elapsed none, congrArg (Option.map _) hctx, ?_, rfl, hrelease, hthen,
      hreason, rfl, htalked⟩⟩
    simp only [StationRecord.Connected, CallContext.answer, hkind]
    exact ⟨hlist, hhead, ho⟩

/-- R34: a call in SETUP that pays no interval is cleared at its answer. -/
theorem State.CallMoves.answer_startClear (hs : (t.station i).state = .setup) (at' : Option (Band × Period))
    (cause : EndCause) :
    s.CallMoves c ((t.mapStation i fun r =>
      { r with answerTimer := none, context := r.context.map (CallContext.answer t.elapsed at') }).startClear i cause) := by
  refine h.setStation_startClear cause (by rw [hs]; nofun) ?_ fun hr => ?_
  · exact StationRecord.callBank_mapContext (t.station i) fun _ => rfl
  · obtain ⟨x, hctx, hthen, hreason⟩ := hr.inCall (by simp [StationRecord.inCall, hs])
    exact ⟨hr.1, by simp [hctx], by simp [hthen, hreason]⟩

/-- R34, R35: a CHARGED call is priced, and enters TALK or is cleared. -/
theorem State.CallMoves.answerCharged (hs : (t.station i).state = .setup) {x : CallContext}
    (hctx : (t.station i).context = some x) {b : Band} (hkind : x.kind = .charged b) :
    s.CallMoves c (t.answerCharged i x.bank b) := by
  cases hcard : (t.station i).card with
  | none =>
    simp only [State.answerCharged, hcard]
    exact h.answer_startClear hs _ _
  | some card =>
    generalize he : (t.bank x.bank).price b (t.period x.bank b) = e
    generalize hj : openingCount (t.station i).cls (t.lowerBound card) e = j
    obtain rfl | hpos := Nat.eq_zero_or_pos j
    · have hbound : t.cardBound i = t.lowerBound card := by simp only [State.cardBound, hcard]
      simp only [State.answerCharged, hcard, hbound, he, hj, if_true]
      exact h.answer_startClear hs _ _
    · rw [State.answerCharged_of_some hctx hcard x.bank b he hj hpos]
      refine State.CallMoves.issueOrder (State.CallMoves.tellStation
        (h.setStation (StationRecord.staysOut_of_in (by rw [hs]; nofun) _) ?_ fun hr => ?_) i _)
        (x := { x.answer t.elapsed (some (b, t.period x.bank b)) with intervalsBegun := 1 })
        (by rw [State.tellStation_station, State.setStation_same])
        (by rw [State.tellStation_station, State.setStation_same]; rfl) hkind _ _ _
      · rw [StationRecord.callBank, StationRecord.callBank, hctx]
        rfl
      · obtain ⟨y, hctx', _, _, hrelease, _, _, hthen, hreason, htalked, _⟩ := (StationRecord.holds_of_setup hs).1 hr.2
        obtain rfl : y = x := Option.some.inj (hctx'.symm.trans hctx)
        refine ⟨hr.1, (StationRecord.holds_of_talk rfl).2 ⟨_, rfl, ?_, rfl, hrelease, hthen, hreason, rfl, htalked⟩⟩
        have hcls : j ≤ 3 := hj ▸ (min_le_left _ _).trans hr.1.2
        simp only [StationRecord.Connected, hkind, length_pricedBlock, hcard]
        exact ⟨hpos, hcls.trans (by decide), rfl, rfl⟩

theorem State.CallMoves.answerCall : s.CallMoves c (t.answerCall i) := by
  unfold State.answerCall
  split
  next x hs hctx =>
    split
    next hkind => exact h.answerFree hs hctx hkind
    next hkind => exact h.answerCharged hs hctx hkind
  next => exact h.offerLink _

/-! ## The head, reports and deliveries -/

/-- R39 to R41. -/
theorem State.CallMoves.headExpired (hs : (t.station i).state = .talk) (x : CallContext) :
    s.CallMoves c (t.headExpired i x) := by
  have hcall : (t.station i).inCall = true := by simp [StationRecord.inCall, hs]
  unfold State.headExpired
  split
  next => exact h.startClear hcall _
  next e rest htail =>
    split
    next =>
      refine State.CallMoves.considerReplenish (h.setStation (StationRecord.staysOut_of_in (by rw [hs]; nofun) _) ?_ fun hr => ?_)
      · exact StationRecord.callBank_mapContext (t.station i) fun _ => rfl
      · exact hr.beginHead hs htail
    next => exact h.startClear hcall _

/-- R84, R85. -/
theorem State.CallMoves.takeReport (tag burned now : Nat) : s.CallMoves c (t.takeReport i tag burned now) := by
  unfold State.takeReport
  split
  next o _ =>
    split
    next =>
      have hretired : s.CallMoves c (t.retireTag i o) := by
        unfold State.retireTag
        split
        next => exact h.same ⟨rfl, rfl, rfl, rfl, rfl⟩
        next => exact h
      exact hretired.takeOutcome o _
    next => exact h
  next => exact h

theorem State.CallMoves.forgetTag (tag : Nat) : s.CallMoves c (t.forgetTag i tag) := h.same ⟨rfl, rfl, rfl, rfl, rfl⟩

/-- R81, R83. -/
theorem State.CallMoves.burnDelivered (tag : Nat) : s.CallMoves c (t.burnDelivered i tag) := by
  unfold State.burnDelivered
  split
  next o hsending =>
    obtain ⟨ho, _⟩ := (t.sendingOrder_eq_some_iff o).1 hsending
    exact h.setOrder fun hr => hr.of_order (by rw [ho]; rfl)
  next => exact h.forgetTag tag

/-- R82, R83. -/
theorem State.CallMoves.burnUndelivered (tag : Nat) : s.CallMoves c (t.burnUndelivered i tag) := by
  unfold State.burnUndelivered
  split
  next => exact h.takeOutcome _ _
  next => exact h.forgetTag tag

end

end Sys2Proof.Machine

/-! # Stations and the call cycle (01): the line restart (R28, R188) as moves of the calls -/

namespace Sys2Proof.Machine

/-! ## A restarted station -/

section
variable {r : StationRecord} {o : Option BurnOrder} (h : r.Fits o)
include h

/-- R4, R26: an out reason stands at a station that is out of service or is to go there. -/
theorem StationRecord.Fits.outReason_isSome : r.outReason.isSome = (r.thenOut || r.state == .outOfService) := by
  cases hs : r.state with
  | idle =>
    obtain ⟨_, ⟨_, _, _, _, hthen⟩, hreason⟩ := (StationRecord.holds_of_idle hs).1 h.2
    rw [hthen, hreason]; rfl
  | ready =>
    obtain ⟨_, ⟨_, _, _, _, hthen⟩, hreason⟩ := (StationRecord.holds_of_ready hs).1 h.2
    rw [hthen, hreason]; rfl
  | outOfService =>
    obtain ⟨_, _, hreason⟩ := (StationRecord.holds_of_out hs).1 h.2
    simp [hreason]
  | setup => simp [h.thenOut_eq (by simp [StationRecord.hasCall, hs])]
  | talk => simp [h.thenOut_eq (by simp [StationRecord.hasCall, hs])]
  | clearing => simp [h.thenOut_eq (by simp [StationRecord.hasCall, hs])]

theorem StationRecord.Fits.restarted : r.restarted.Fits none := by
  have hreason := h.outReason_isSome
  have hcallless : r.restarted.Callless none := ⟨rfl, rfl, ⟨rfl, rfl, rfl⟩, rfl, rfl⟩
  refine ⟨h.1, ?_⟩
  cases hout : r.thenOut || r.state == .outOfService with
  | true =>
    have hs : r.restarted.state = .outOfService := if_pos hout
    exact (StationRecord.holds_of_out hs).2 ⟨rfl, hcallless, hreason.trans hout⟩
  | false =>
    have hs : r.restarted.state = .idle := if_neg (Bool.eq_false_iff.1 hout)
    exact (StationRecord.holds_of_idle hs).2 ⟨rfl, hcallless,
      Option.isNone_iff_eq_none.1 (Option.isSome_eq_false_iff.1 (hreason.trans hout))⟩

end

/-- R26: a withdrawn station stays out. -/
theorem StationRecord.staysOut_restarted (r : StationRecord) : r.StaysOut r.restarted :=
  fun hout => ⟨if_pos (by simp [hout]), rfl⟩

/-! ## One station's restart with the end of its order -/

/-- R28, R98: one station is restarted and its order ends. A restart of the line does the first for every station and then
the second for all. -/
def State.restartStationAndOrder (s : State) (i : StationId) : State := (s.restartStation i).setOrder i none

section
variable (s : State) (i : StationId)

theorem State.storeRestart_of_call {x : CallContext} (hcall : (s.station i).hasCall = true)
    (hctx : (s.station i).context = some x) : s.storeRestart i =
      (s.storeRecord i (CallContext.restarted s.elapsed (s.station i) (s.order i) x)).unpinBank x.bank := by
  simp only [State.storeRestart, hcall, hctx]

theorem State.storeRestart_of_no_call (h : (s.station i).hasCall = true → (s.station i).context = none) :
    s.storeRestart i = s := by
  unfold State.storeRestart
  split
  next hcall hctx => rw [h hcall] at hctx; cases hctx
  next => rfl

theorem State.restartStation_eq : s.restartStation i = (s.storeRestart i).setStation i (s.station i).restarted := by
  rw [State.restartStation, State.mapStation, State.storeRestart_station]

/-- A restarted station is one move. -/
theorem State.callMove_restartStationAndOrder (c : Instr) : s.CallMove c (s.restartStationAndOrder i) := by
  rw [State.restartStationAndOrder, State.restartStation_eq]
  by_cases hcall : (s.station i).hasCall = true ∧ (s.station i).context.isSome = true
  · obtain ⟨hcall, hsome⟩ := hcall
    obtain ⟨x, hctx⟩ := Option.isSome_iff_exists.1 hsome
    rw [s.storeRestart_of_call i hcall hctx]
    refine .store i (CallContext.restarted s.elapsed (s.station i) (s.order i) x) _ none (fun hout => ?_) ?_ rfl (·.restarted)
    · simp [StationRecord.hasCall, hout] at hcall
    · rw [StationRecord.callBank, hctx]; rfl
  · rw [s.storeRestart_of_no_call i fun hc => Option.not_isSome_iff_eq_none.1 fun hsome => hcall ⟨hc, hsome⟩]
    refine .station i _ none (StationRecord.staysOut_restarted _) (fun hr => ?_) (·.restarted)
    have hnone : (s.station i).context = none := Option.not_isSome_iff_eq_none.1 fun hsome =>
      hcall ⟨hr.hasCall_eq.trans hsome, hsome⟩
    rw [StationRecord.callBank, StationRecord.callBank, hnone]; rfl

/-- A restart of one station reads no order but its own. -/
theorem State.restartStation_setOrder {j : StationId} (hij : j ≠ i) (o : Option BurnOrder) :
    (s.setOrder i o).restartStation j = (s.restartStation j).setOrder i o := by
  have hstored : (s.setOrder i o).storeRestart j = (s.storeRestart j).setOrder i o := by
    unfold State.storeRestart
    rw [State.setOrder_station, State.setOrder_other _ _ _ _ hij]
    split <;> rfl
  rw [State.restartStation_eq, State.restartStation_eq, hstored]
  rfl

theorem State.foldl_restartStation_setOrder {l : List StationId} (hi : i ∉ l) (o : Option BurnOrder) :
    l.foldl State.restartStation (s.setOrder i o) = (l.foldl State.restartStation s).setOrder i o := by
  induction l generalizing s with
  | nil => rfl
  | cons j l ih =>
    obtain ⟨hij, hrest⟩ := not_or.1 (mt List.mem_cons.2 hi)
    rw [List.foldl_cons, List.foldl_cons, s.restartStation_setOrder i (Ne.symm hij), ih _ hrest]

/-- Ending each order at its station's turn, or all orders after the last turn, leaves the same but for the orders. -/
theorem State.foldl_restartStationAndOrder {l : List StationId} (hl : l.Nodup) :
    l.foldl State.restartStationAndOrder s =
      l.foldl (fun u i => u.setOrder i none) (l.foldl State.restartStation s) := by
  induction l generalizing s with
  | nil => rfl
  | cons i l ih =>
    obtain ⟨hi, hrest⟩ := List.nodup_cons.1 hl
    simp only [List.foldl_cons]
    rw [ih _ hrest, State.restartStationAndOrder, State.foldl_restartStation_setOrder _ _ hi]

end

/-! ## The line -/

/-- R98: every order ended in turn, no order is left. -/
theorem State.foldl_setOrder_none (u : State) : stationIds.foldl (fun v i => v.setOrder i none) u =
    { u with de := { u.de with orders := PerStation.fill none } } := by
  have hframe : ∀ l : List StationId, ∃ v, l.foldl (fun w i => w.setOrder i none) u = { u with de := { u.de with orders := v } } :=
    fun l => List.foldlRecOn (motive := fun w => ∃ v, w = { u with de := { u.de with orders := v } }) l _ ⟨_, rfl⟩
      fun w ⟨v, hw⟩ i _ => ⟨v.set i none, by rw [hw]; rfl⟩
  have horder := foldl_stationIds_establishes (P := fun w i => State.order w i = none) (f := fun w i => w.setOrder i none)
    (fun w i => w.setOrder_same i none)
    (fun w i j hw => by
      by_cases hij : i = j
      · rw [hij]; exact w.setOrder_same j none
      · rwa [w.setOrder_other j i none hij]) u
  obtain ⟨v, hv⟩ := hframe stationIds
  rw [hv] at horder ⊢
  rw [PerStation.ext_get v (PerStation.fill none) fun i => (horder i).trans (PerStation.get_fill none i).symm]

/-- R188: a restart of the line is a sequence of moves. -/
theorem State.CallMoves.restartLine {c : Instr} {s t : State} (h : s.CallMoves c t) : s.CallMoves c t.restartLine := by
  have hmoved := h.foldl (fun hu i => hu.move (State.callMove_restartStationAndOrder _ i c)) stationIds
  rw [State.foldl_restartStationAndOrder _ stationIds_nodup, State.foldl_setOrder_none] at hmoved
  exact hmoved.same ⟨rfl, rfl, rfl, rfl, rfl⟩

end Sys2Proof.Machine

/-! # Stations and the call cycle (01): every command is a sequence of moves of the calls -/

namespace Sys2Proof.Machine

/-! ## Writing a bank that is not in use -/

theorem Bank.written_state {b : Bank} (h : b.busy = false) : b.written.state = .standby := by
  cases hs : b.state <;> simp_all [Bank.written, Bank.busy]

section
variable {c : Instr} {s t : State} (h : s.CallMoves c t)
include h

theorem State.CallMoves.writeBank {α : Type} (x : BankId) (e : EntryRead α) (repeats : Bank → α → Bool)
    {store : Option α → Bank → Bank} (hstate : ∀ o b, (store o b).state = b.state)
    (hpins : ∀ o b, (store o b).pins = b.pins) : s.CallMoves c (t.writeBank x e repeats store).2 := by
  unfold State.writeBank
  dsimp only
  split
  next => exact h
  next hbusy =>
    have hfree : (t.bank x).busy = false := Bool.eq_false_iff.2 hbusy
    have hwritten (o : Option α) : s.CallMoves c (t.setBank x (store o (t.bank x)).written) := by
      refine h.move (.write x _ hfree (Bank.written_state ?_) (hpins o _))
      rw [Bank.busy, hstate]
      exact hfree
    split
    next => exact h
    next => exact hwritten none
    next v =>
      split
      next => exact h
      next => exact hwritten (some v)

theorem State.CallMoves.writeHot (k : Nat) (e : EntryRead HotRange) : s.CallMoves c (t.writeHot k e).2 := by
  unfold State.writeHot
  dsimp only
  split
  next => exact h
  next => exact h.cards _
  next r =>
    split
    next => exact h
    next =>
      dsimp only
      exact State.CallMoves.barRange (h.cards _) r

theorem State.CallMoves.writeBatch (k : Nat) (e : EntryRead BatchEntry) : s.CallMoves c (t.writeBatch k e).2 := by
  unfold State.writeBatch
  dsimp only
  split
  next => exact h
  next => exact h.cards _
  next =>
    split
    next => exact h
    next => exact h.cards _

theorem State.CallMoves.writeEntry (bytes : List Byte) : s.CallMoves c (t.writeEntry bytes).2 := by
  unfold State.writeEntry
  dsimp only
  split
  next => exact h.writeHot _ _
  next => exact h.writeBatch _ _
  next => exact h.writeBank _ _ _ (fun _ _ => rfl) fun _ _ => rfl
  next => exact h.writeBank _ _ _ (fun _ _ => rfl) fun _ _ => rfl
  next => exact h.writeBank _ _ _ (fun _ _ => rfl) fun _ _ => rfl
  next => exact h

theorem State.CallMoves.writeAll (es : List (List Byte)) (n : Nat) : s.CallMoves c (t.writeAll es n).state := by
  induction es generalizing t n with
  | nil => exact h
  | cons e es ih =>
    have hone := h.writeEntry e
    unfold State.writeAll
    split
    next u heq => rw [heq] at hone; exact ih hone.advancePointer (n + 1)
    next st u _ heq => rw [heq] at hone; exact hone

theorem State.CallMoves.readAll (n : Nat) : s.CallMoves c (t.readAll n).2 := by
  induction n generalizing t with
  | zero => exact h
  | succ n ih => exact ih h.advancePointer

/-! ## Management requests -/

variable (data : List Byte)

theorem State.CallMoves.selectPage : s.CallMoves c (Machine.selectPage data t).state := by
  unfold Machine.selectPage
  split
  next =>
    split
    next => exact h.same ⟨rfl, rfl, rfl, rfl, rfl⟩
    next => exact h
  next => exact h

theorem State.CallMoves.writeEntries : s.CallMoves c (Machine.writeEntries data t).state := by
  unfold Machine.writeEntries
  split
  next => exact h
  next =>
    split_ifs
    · exact h
    · exact h.writeAll _ 0
    · exact h

theorem State.CallMoves.readEntries : s.CallMoves c (Machine.readEntries data t).state := by
  unfold Machine.readEntries
  split
  next =>
    split
    next => exact h.readAll _
    next => exact h
  next => exact h

theorem State.CallMoves.activateBank : s.CallMoves c (Machine.activateBank data t).state := by
  unfold Machine.activateBank
  split
  next =>
    split
    next => exact h.move (.activate _)
    next => exact h
  next => exact h

theorem State.CallMoves.setService : s.CallMoves c (Machine.setService data t).state := by
  unfold Machine.setService
  split
  next =>
    split
    next => exact h
    next v _ =>
      split_ifs with hsame hnone
      · exact h
      · exact h
      · exact (h.move (.service v fun hv hactive => hnone ⟨hv, hactive⟩)).offerRow _
  next => exact h

theorem State.CallMoves.setStation_request (hc : c = .setStation) : s.CallMoves c (Machine.setStation data t).state := by
  unfold Machine.setStation
  split
  next =>
    split
    next =>
      split
      next hk => exact (h.setMode hc hk _).refreshAttn
      next => exact h
    next => exact h
  next => exact h

theorem State.CallMoves.readStation : s.CallMoves c (Machine.readStation data t).state := by
  unfold Machine.readStation
  split
  next => split <;> exact h
  next => exact h

theorem State.CallMoves.readStatus : s.CallMoves c (Machine.readStatus data t).state := by
  unfold Machine.readStatus
  split <;> exact h

theorem State.CallMoves.fetchRecord : s.CallMoves c (Machine.fetchRecord data t).state := by
  unfold Machine.fetchRecord
  split
  next =>
    split
    next => exact h
    next => split <;> exact h
  next => exact h

theorem State.CallMoves.releaseRecords (hc : c = .releaseRecords) :
    s.CallMoves c (Machine.releaseRecords data t).state := by
  unfold Machine.releaseRecords
  split
  next => exact (h.move (.release hc _)).refreshAttn
  next => exact h

theorem State.CallMoves.removeAutobar : s.CallMoves c (Machine.removeAutobar data t).state := by
  unfold Machine.removeAutobar
  split
  next =>
    split
    next => exact h.cards _
    next => exact h
  next => exact h

theorem State.CallMoves.restartLine_request : s.CallMoves c (Machine.restartLine data t).state := by
  unfold Machine.restartLine
  split
  next => exact h.restartLine.refreshAttn
  next => exact h

end

/-! ## Taking from the inbound queues -/

section
variable {c : Instr} {s t u : State} (hm : s.CallMoves c t)
include hm

theorem State.CallMoves.takeRow {f : RowInFrame} (htake : t.takeRow = some (f, u)) : s.CallMoves c u := by
  obtain ⟨_, _, rfl⟩ := State.takeRow_eq_some htake
  exact hm.rlc _

theorem State.CallMoves.takeLink {m : LinkInMsg} (htake : t.takeLink = some (m, u)) : s.CallMoves c u := by
  obtain ⟨_, _, rfl⟩ := State.takeLink_eq_some htake
  exact hm.xlc _

/-- R177: a request and its reply. -/
theorem State.CallMoves.runRequest (name : Byte) {handle : List Byte → State → Answer}
    (hhandle : ∀ {v : State}, s.CallMoves c v → ∀ data, s.CallMoves c (handle data v).state) :
    s.CallMoves c (t.runRequest name handle) := by
  unfold State.runRequest
  split
  next htake =>
    split
    next => exact (hhandle (hm.takeLink htake) _).offerLink _
    next => exact hm
  next => exact hm

theorem State.CallMoves.runUnknown : s.CallMoves c t.runUnknown := by
  unfold State.runUnknown
  split
  next htake =>
    split
    next => exact hm
    next => exact (hm.takeLink htake).offerLink _
  next => exact hm

end

/-! ## The exchange link -/

section
variable {c : Instr} {s t : State} (h : s.CallMoves c t)
include h

theorem State.CallMoves.takeCallAnswered : s.CallMoves c t.takeCallAnswered := by
  unfold State.takeCallAnswered
  split
  next htake => exact (h.takeLink htake).answerCall.refreshAttn
  next => exact h

theorem State.CallMoves.takeCallClear : s.CallMoves c t.takeCallClear := by
  unfold State.takeCallClear
  split
  next htake => exact ((h.takeLink htake).exchangeClears _).refreshAttn
  next => exact h

theorem State.CallMoves.takeCallReleased : s.CallMoves c t.takeCallReleased := by
  unfold State.takeCallReleased
  split
  next htake => exact (h.takeLink htake).exchangeReleases.refreshAttn
  next => exact h

theorem State.CallMoves.takeClock : s.CallMoves c t.takeClock := by
  unfold State.takeClock
  split
  next htake => exact ((h.takeLink htake).tb _).refreshAttn
  next => exact h

/-! ## The row line -/

theorem State.CallMoves.headDelivered (f : RowOutFrame) : s.CallMoves c (t.headDelivered f) := by
  unfold State.headDelivered
  dsimp only
  split
  next => exact (h.rlc _).burnDelivered _
  next => exact h.rlc _

theorem State.CallMoves.headUndelivered (f : RowOutFrame) : s.CallMoves c (t.headUndelivered f) := by
  unfold State.headUndelivered
  dsimp only
  split
  next => exact (h.rlc _).burnUndelivered _
  next => exact h.rlc _

theorem State.CallMoves.transmissionFailed (f : RowOutFrame) : s.CallMoves c (t.transmissionFailed f) := by
  unfold State.transmissionFailed
  split
  next => exact h.rlc _
  next => exact h.headUndelivered f

theorem State.CallMoves.lineFree : s.CallMoves c t.lineFree := by
  unfold State.lineFree
  split
  next => exact h.rlc _
  next => exact h

theorem State.CallMoves.retryDue : s.CallMoves c t.retryDue := by
  unfold State.retryDue
  split
  next => exact h.rlc _
  next => exact h

theorem State.CallMoves.spoiled : s.CallMoves c t.spoiled := by
  unfold State.spoiled
  split
  next => exact (h.transmissionFailed _).refreshAttn
  next => exact h

theorem State.CallMoves.slotEnds (heard : Option Byte) : s.CallMoves c (t.slotEnds heard) := by
  unfold State.slotEnds
  split
  next => exact h
  next =>
    split
    next => exact h
    next =>
      split
      next => exact (h.headDelivered _).refreshAttn
      next => exact (h.headUndelivered _).refreshAttn
      next => exact (h.transmissionFailed _).refreshAttn
      next => exact (h.transmissionFailed _).refreshAttn

theorem State.CallMoves.broadcastEnds : s.CallMoves c t.broadcastEnds := by
  unfold State.broadcastEnds
  split
  next => exact h
  next =>
    split
    next => exact h.headDelivered _
    next => exact h

/-! ## Station frames taken -/

theorem State.CallMoves.takeCardIn : s.CallMoves c t.takeCardIn := by
  unfold State.takeCardIn
  split
  next htake => exact (h.takeRow htake).judgeCard _ _ _ _
  next => exact h

theorem State.CallMoves.takeCardOut : s.CallMoves c t.takeCardOut := by
  unfold State.takeCardOut
  split
  next htake => exact (h.takeRow htake).cardOut
  next => exact h

theorem State.CallMoves.takeNumber : s.CallMoves c t.takeNumber := by
  unfold State.takeNumber
  split
  next htake => exact (h.takeRow htake).judgeNumber _ _
  next => exact h

theorem State.CallMoves.takeHookOn : s.CallMoves c t.takeHookOn := by
  unfold State.takeHookOn
  split
  next htake =>
    split
    next hcall => exact (h.takeRow htake).startClear hcall _
    next => exact h.takeRow htake
  next => exact h

theorem State.CallMoves.takeBurnReport : s.CallMoves c t.takeBurnReport := by
  unfold State.takeBurnReport
  split
  next htake => exact ((h.takeRow htake).takeReport _ _ _).refreshAttn
  next => exact h

/-! ## Timers -/

variable (i : StationId)

theorem State.CallMoves.answerExpires : s.CallMoves c (t.answerExpires i) := by
  unfold State.answerExpires
  split
  next hdue => exact h.startClear (by simp [StationRecord.inCall, hdue.1]) _
  next => exact h

theorem State.CallMoves.releaseExpires : s.CallMoves c (t.releaseExpires i) := by
  unfold State.releaseExpires
  split
  next hdue => exact (h.releaseCall hdue.1).refreshAttn
  next => exact h

theorem State.CallMoves.headExpires : s.CallMoves c (t.headExpires i) := by
  unfold State.headExpires
  split
  next hs _ _ => exact (h.headExpired hs _).refreshAttn
  next => exact h

theorem State.CallMoves.replyExpires : s.CallMoves c (t.replyExpires i) := by
  unfold State.replyExpires
  split
  next =>
    split
    next => exact (h.takeOutcome _ _).refreshAttn
    next => exact h
  next => exact h

omit i

theorem State.CallMoves.rememberExpires (x : Serial) : s.CallMoves c (t.rememberExpires x) := by
  unfold State.rememberExpires
  split
  next =>
    split
    next => exact h.withCards _
    next => exact h
  next => exact h

theorem State.CallMoves.silenceExpires : s.CallMoves c t.silenceExpires := by
  unfold State.silenceExpires
  split
  next => exact ((h.xlc t.xlc.goDown).foldl (fun hu i => hu.linkDownStation) stationIds).refreshAttn
  next => exact h

theorem State.CallMoves.untrustExpires : s.CallMoves c t.untrustExpires := by
  unfold State.untrustExpires
  split
  next => exact (h.tb _).refreshAttn
  next => exact h

end

/-! ## Time -/

theorem tickTimer_isSome (t : Option Nat) : (tickTimer t).isSome = t.isSome := by cases t <;> rfl

theorem tickTimer_eq_none (t : Option Nat) : tickTimer t = none ↔ t = none := by cases t <;> simp [tickTimer]

/-- R122: no timer starts or stops at a tick. -/
theorem StationRecord.holds_tick (r : StationRecord) (o : Option BurnOrder) : r.tick.Holds o ↔ r.Holds o := by
  unfold StationRecord.Holds StationRecord.Callless StationRecord.Untimed StationRecord.Connected StationRecord.Clearing
  simp only [StationRecord.tick, tickTimer_isSome, tickTimer_eq_none]

theorem StationRecord.Fits.tick {r : StationRecord} {o : Option BurnOrder} (h : r.Fits o) :
    r.tick.Fits (o.map BurnOrder.tick) :=
  StationRecord.Fits.of_order ⟨h.1, (r.holds_tick o).2 h.2⟩ Option.isNone_map

section
variable {c : Instr} {s t : State} (h : s.CallMoves c t)
include h

theorem State.CallMoves.tick : s.CallMoves c t.tick :=
  (h.move (.inPlace StationRecord.tick BurnOrder.tick (fun _ hout => ⟨hout, rfl⟩) (fun _ => rfl) fun _ _ hr => hr.tick)).same
    ⟨rfl, rfl, rfl, rfl, rfl⟩

/-! ## Power -/

variable (hc : ofPower c = true)
include hc

/-- Log 9: without its working copy the RQ keeps the retained store alone. -/
theorem State.CallMoves.unpowered (pins : Pins) : s.CallMoves c (t.atPowerUp pins t.rq.unpowered) :=
  h.move (.power hc pins _ rfl fun hroom => ⟨Nat.zero_le _, hroom⟩)

theorem State.CallMoves.powerUp : s.CallMoves c t.powerUp := by
  refine (h.move (.power hc _ _ t.rq.judged_reservations fun hroom => ?_)).refreshAttn
  by_cases husable : t.rq.store.vbakHeld = true ∧ t.rq.store.checkAgrees = true
  · rw [RecordQueue.judged_of_usable husable]
    exact ⟨hroom, hroom⟩
  · rw [RecordQueue.judged_of_not_usable husable]
    exact ⟨Nat.zero_le _, Nat.zero_le _⟩

theorem State.CallMoves.holdReset : s.CallMoves c t.holdReset := by
  unfold State.holdReset
  split
  next => exact h.unpowered hc _
  next => exact h.same ⟨rfl, rfl, rfl, rfl, rfl⟩

theorem State.CallMoves.losePower : s.CallMoves c t.losePower := by
  unfold State.losePower
  split
  next =>
    have hlost := h.unpowered hc { supply := false, reset := t.pins.reset, attn := Config.attnUnpowered t.free }
    exact hlost.same ⟨rfl, rfl, rfl, rfl, rfl⟩
  next => exact h

theorem State.CallMoves.loseVbak : s.CallMoves c t.loseVbak := by
  unfold State.loseVbak
  split
  next => exact h
  next => exact h.move (.vbak hc)

end

/-! ## Every command -/

section
variable {c : Instr} {s t : State}

theorem callMoves_of_whenRunning {f : State → State} (hf : ∀ {u}, s.CallMoves c u → s.CallMoves c (f u))
    (h : whenRunning f s = .next t) : s.CallMoves c t := by
  rw [whenRunning_next f s t h]
  split
  next => exact hf (.refl c s)
  next => exact .refl c s

/-- Every command is a sequence of moves. -/
theorem exec_callMoves (h : exec c s = .next t) : s.CallMoves c t := by
  cases c with
  | powerUp => cases h; exact (State.CallMoves.refl _ s).powerUp rfl
  | resetAsserted => cases h; exact (State.CallMoves.refl _ s).holdReset rfl
  | powerLoss => cases h; exact (State.CallMoves.refl _ s).losePower rfl
  | vbakLost => cases h; exact (State.CallMoves.refl _ s).loseVbak rfl
  | rowFrameReceived bytes => exact callMoves_of_whenRunning (f := State.rowReceived bytes) (fun hu => hu.rlc _) h
  | cardIn => exact callMoves_of_whenRunning .takeCardIn h
  | cardOut => exact callMoves_of_whenRunning .takeCardOut h
  | number => exact callMoves_of_whenRunning .takeNumber h
  | hookOn => exact callMoves_of_whenRunning .takeHookOn h
  | burnReport => exact callMoves_of_whenRunning .takeBurnReport h
  | lineFree => exact callMoves_of_whenRunning .lineFree h
  | retry => exact callMoves_of_whenRunning .retryDue h
  | spoiledTransmission => exact callMoves_of_whenRunning .spoiled h
  | acknowledgeSlot heard => exact callMoves_of_whenRunning (fun hu => hu.slotEnds heard) h
  | broadcastSent => exact callMoves_of_whenRunning .broadcastEnds h
  | linkFrameReceived bytes =>
    exact callMoves_of_whenRunning (f := State.linkReceived bytes) (fun hu => (hu.xlc _).refreshAttn) h
  | callAnswered => exact callMoves_of_whenRunning .takeCallAnswered h
  | callClear => exact callMoves_of_whenRunning .takeCallClear h
  | callReleased => exact callMoves_of_whenRunning .takeCallReleased h
  | clock => exact callMoves_of_whenRunning .takeClock h
  | linkFrameSent => exact callMoves_of_whenRunning (f := State.linkSent) (fun hu => hu.xlc _) h
  | selectPage => exact callMoves_of_whenRunning (fun hu => hu.runRequest _ .selectPage) h
  | writeEntries => exact callMoves_of_whenRunning (fun hu => hu.runRequest _ .writeEntries) h
  | readEntries => exact callMoves_of_whenRunning (fun hu => hu.runRequest _ .readEntries) h
  | activateBank => exact callMoves_of_whenRunning (fun hu => hu.runRequest _ .activateBank) h
  | setService => exact callMoves_of_whenRunning (fun hu => hu.runRequest _ .setService) h
  | setStation =>
    exact callMoves_of_whenRunning (fun hu => hu.runRequest _ fun hv data => hv.setStation_request data rfl) h
  | readStation => exact callMoves_of_whenRunning (fun hu => hu.runRequest _ .readStation) h
  | readStatus => exact callMoves_of_whenRunning (fun hu => hu.runRequest _ .readStatus) h
  | fetchRecord => exact callMoves_of_whenRunning (fun hu => hu.runRequest _ .fetchRecord) h
  | releaseRecords =>
    exact callMoves_of_whenRunning (fun hu => hu.runRequest _ fun hv data => hv.releaseRecords data rfl) h
  | removeAutobar => exact callMoves_of_whenRunning (fun hu => hu.runRequest _ .removeAutobar) h
  | restartLine => exact callMoves_of_whenRunning (fun hu => hu.runRequest _ .restartLine_request) h
  | mgmtRequestUnknown => exact callMoves_of_whenRunning .runUnknown h
  | answerTimerExpiry i => exact callMoves_of_whenRunning (fun hu => hu.answerExpires i) h
  | releaseTimerExpiry i => exact callMoves_of_whenRunning (fun hu => hu.releaseExpires i) h
  | headIntervalExpiry i => exact callMoves_of_whenRunning (fun hu => hu.headExpires i) h
  | replyTimerExpiry i => exact callMoves_of_whenRunning (fun hu => hu.replyExpires i) h
  | rememberTimerExpiry x => exact callMoves_of_whenRunning (fun hu => hu.rememberExpires x) h
  | silenceTimerExpiry => exact callMoves_of_whenRunning .silenceExpires h
  | untrustTimerExpiry => exact callMoves_of_whenRunning .untrustExpires h
  | timeOfDayTick => exact callMoves_of_whenRunning .tick h

/-- What every move keeps, every sequence of moves keeps. -/
theorem State.CallMoves.keeps {p : State → Prop} (hmove : ∀ {u v : State}, u.CallMove c v → p u → p v)
    (h : s.CallMoves c t) (hs : p s) : p t :=
  Relation.ReflTransGen.recOn (motive := fun u _ => p u) h hs fun _ hmv hu => hmove hmv hu

/-- What every move keeps, every step keeps. -/
theorem kept_of_callMove {p : State → Prop} (hmove : ∀ {c : Instr} {s t : State}, s.CallMove c t → p s → p t) :
    Kept p := by
  intro s t hs hstep
  unfold step at hstep
  split at hstep
  next => cases hstep; exact hs
  next c rest _ =>
    have hrest : s.CallMove c { s with pending := rest } := .same ⟨rfl, rfl, rfl, rfl, rfl⟩
    exact (exec_callMoves hstep).keeps hmove (hmove hrest hs)

end

end Sys2Proof.Machine

/-! # The tariff store (06) and the record queue (09): banks, records and withdrawals -/

namespace Sys2Proof.Machine

/-! ## Records and withdrawals stay -/

/-- R132, R26: what a command that is no power event does to the records and to the withdrawn stations. -/
structure State.Keeping (c : Instr) (s t : State) : Prop where
  records : c ≠ .releaseRecords → ∃ new, t.rq.records = s.rq.records ++ new
  stations : c ≠ .setStation → ∀ i, (s.station i).StaysOut (t.station i)

section
variable {c : Instr} {s t u : State}

theorem State.Keeping.refl (c : Instr) (s : State) : s.Keeping c s :=
  ⟨fun _ => ⟨[], (List.append_nil _).symm⟩, fun _ _ hout => ⟨hout, rfl⟩⟩

theorem State.Keeping.trans (h : s.Keeping c t) (k : t.Keeping c u) : s.Keeping c u := by
  refine ⟨fun hc => ?_, fun hc i hout => ?_⟩
  · obtain ⟨new, hnew⟩ := h.records hc
    obtain ⟨more, hmore⟩ := k.records hc
    exact ⟨new ++ more, by rw [hmore, hnew, List.append_assoc]⟩
  · obtain ⟨hstate, hreason⟩ := h.stations hc i hout
    obtain ⟨hstate', hreason'⟩ := k.stations hc i hstate
    exact ⟨hstate', hreason'.trans hreason⟩

/-- No record goes, and one station's record changes. -/
theorem State.Keeping.of_station {new : List CallRecord} {i : StationId} {r : StationRecord}
    (hrecords : t.rq.records = s.rq.records ++ new) (hcc : t.cc = s.cc.set i r) (hr : (s.station i).StaysOut r) :
    s.Keeping c t := by
  refine ⟨fun _ => ⟨new, hrecords⟩, fun _ j hout => ?_⟩
  by_cases hij : j = i
  · subst hij
    rw [State.station, hcc, PerStation.get_set_same]
    exact hr hout
  · rw [State.station, hcc, PerStation.get_set_other _ _ _ _ hij]
    exact ⟨hout, rfl⟩

/-- No record goes, and no station's record changes. -/
theorem State.Keeping.of_eq (hrecords : t.rq.records = s.rq.records) (hcc : t.cc = s.cc) : s.Keeping c t :=
  ⟨fun _ => ⟨[], hrecords.trans (List.append_nil _).symm⟩, fun _ i hout => by
    rw [State.station, hcc]; exact ⟨hout, rfl⟩⟩

theorem State.CallMove.keeping (hc : ofPower c = false) (h : s.CallMove c t) : s.Keeping c t := by
  cases h with
  | same h => exact .of_eq (by rw [h.rq]) h.cc
  | station i r o hout => exact .of_station (List.append_nil _).symm rfl hout
  | store i x r o hin => exact .of_station rfl rfl (StationRecord.staysOut_of_in hin r)
  | enterCall i bank r hstate =>
    refine .of_station (List.append_nil _).symm rfl (StationRecord.staysOut_of_in ?_ r)
    obtain hs | hs := hstate <;> simp [hs]
  | inPlace f g hout =>
    refine ⟨fun _ => ⟨[], (List.append_nil _).symm⟩, fun _ i => ?_⟩
    show (s.station i).StaysOut ((s.cc.map f).get i)
    rw [PerStation.get_map]
    exact hout _
  | write => exact .of_eq rfl rfl
  | activate x =>
    unfold State.activate
    split
    next => exact .refl c s
    next => exact .refl c s
    next => exact .refl c s
    next => split <;> exact .of_eq rfl rfl
  | service => exact .of_eq rfl rfl
  | putIn hset i =>
    refine ⟨fun _ => ⟨[], ?_⟩, fun hne => (hne hset).elim⟩
    rw [List.append_nil, State.putInService]
    split <;> rfl
  | release hrelease => exact ⟨fun hne => (hne hrelease).elim, fun _ _ hout => ⟨hout, rfl⟩⟩
  | power hpower => rw [hc] at hpower; cases hpower
  | vbak hpower => rw [hc] at hpower; cases hpower

end

/-- Settles O59: every move of the calls keeps the records and the withdrawn stations. -/
theorem recordsAndWithdrawalsStay : Obligations.RecordsAndWithdrawalsStay := by
  intro c s t hc hexec
  obtain ⟨hrecords, hstations⟩ := (exec_callMoves hexec).keeps (p := s.Keeping c) (fun hmv hu => hu.trans (hmv.keeping hc))
    (.refl c s)
  exact ⟨hrecords, fun i hset => hstations hset i⟩

/-! ## A bank beside the other -/

/-- R101, R103, R114: what bank `b` may be beside the other bank `o`. -/
structure Bank.Beside (b o : Bank) : Prop where
  alone : b.state = .active → o.state ≠ .active
  draining : b.state = .draining → o.state = .active
  fits : b.StateFits

section
variable {b o : Bank}

/-- A bank in the state of `b` may stand where `b` does. -/
theorem Bank.Beside.of_state {d : Bank} (h : b.Beside o) (hactive : d.state = .active → b.state = .active)
    (hdraining : d.state = .draining → b.state = .draining) (hfits : d.StateFits) : d.Beside o :=
  ⟨fun hd => h.alone (hactive hd), fun hd => h.draining (hdraining hd), hfits⟩

/-- What stands beside `b` may stand beside a bank that is ACTIVE when `b` is. -/
theorem Bank.Beside.beside_state {d : Bank} (h : o.Beside b) (hactive : d.state = .active ↔ b.state = .active) : o.Beside d :=
  ⟨fun ho => (mt hactive.1 (h.alone ho)), fun ho => hactive.2 (h.draining ho), h.fits⟩

/-- R102, R103: a pin may be added to an ACTIVE bank. -/
theorem Bank.stateFits_pinned (hs : b.state = .active) (h : b.StateFits) : { b with pins := b.pins + 1 }.StateFits := by
  simp only [Bank.StateFits, hs] at h ⊢
  exact h

theorem Bank.stateFits_unpinned (h : b.StateFits) : b.unpinned.StateFits := by
  cases hs : b.state with
  | empty => simp_all [Bank.StateFits, Bank.unpinned]
  | standby => simp_all [Bank.StateFits, Bank.unpinned]
  | active =>
    simp only [Bank.StateFits, Bank.unpinned, hs] at h ⊢
    exact h
  | draining =>
    simp only [Bank.StateFits, hs] at h
    by_cases hlast : b.pins - 1 = 0
    · simp [Bank.StateFits, Bank.unpinned, hs, hlast]
    · simp only [Bank.StateFits, Bank.unpinned, hs, hlast, and_false, if_false]
      exact ⟨Nat.pos_of_ne_zero hlast, h.2⟩

theorem Bank.unpinned_active_iff : b.unpinned.state = .active ↔ b.state = .active := by
  unfold Bank.unpinned
  dsimp only
  split
  next h => simp [h.1]
  next => rfl

theorem Bank.unpinned_draining (h : b.unpinned.state = .draining) : b.state = .draining := by
  unfold Bank.unpinned at h
  dsimp only at h
  split at h
  next => cases h
  next => exact h

/-- R116: the bank that was beside a STANDBY bank, once that is ACTIVE. -/
theorem Bank.Beside.replaced {d : Bank} (h : o.Beside b) (hs : b.state = .standby) (hd : d.state = .active) :
    o.replaced.Beside d := by
  have hfits := h.fits
  cases ho : o.state with
  | empty =>
    simp only [Bank.StateFits, ho] at hfits
    refine ⟨?_, ?_, ?_⟩ <;> simp [Bank.replaced, Bank.StateFits, ho, hfits]
  | standby =>
    simp only [Bank.StateFits, ho] at hfits
    refine ⟨?_, ?_, ?_⟩ <;> simp [Bank.replaced, Bank.StateFits, ho, hfits]
  | active =>
    simp only [Bank.StateFits, ho] at hfits
    by_cases hpins : o.pins = 0
    · refine ⟨?_, ?_, ?_⟩ <;> simp [Bank.replaced, Bank.StateFits, ho, hpins]
    · have hstate : o.replaced.state = .draining := by simp [Bank.replaced, ho, hpins]
      refine ⟨by rw [hstate]; nofun, fun _ => hd, ?_⟩
      simp only [Bank.StateFits, hstate]
      exact ⟨Nat.pos_of_ne_zero hpins, hfits⟩
  | draining => exact absurd (h.draining ho) (by rw [hs]; nofun)

theorem Bank.replaced_not_active : b.replaced.state ≠ .active := by
  cases hs : b.state with
  | active => by_cases hpins : b.pins = 0 <;> simp [Bank.replaced, hs, hpins]
  | empty => simp [Bank.replaced, hs]
  | standby => simp [Bank.replaced, hs]
  | draining => simp [Bank.replaced, hs]

end

/-! ## The two banks -/

section
variable {s t : State}

theorem BankId.forall_iff {p : BankId → Prop} : (∀ x, p x) ↔ p .a ∧ p .b :=
  ⟨fun h => ⟨h .a, h .b⟩, fun ⟨ha, hb⟩ x => by cases x <;> assumption⟩

theorem State.setBank_of_other (x : BankId) (b : Bank) : (s.setBank x.other b).bank x = s.bank x := by
  simpa using s.setBank_other x.other b

theorem State.activeBank_eq_some {x : BankId} (h : s.activeBank = some x) : (s.bank x).state = .active := by
  unfold State.activeBank at h
  split_ifs at h with ha hb <;> cases h <;> assumption

theorem State.activeBank_ne_none_iff (s : State) : s.activeBank ≠ none ↔ ∃ x, (s.bank x).state = .active := by
  refine ⟨fun h => ?_, fun ⟨x, hx⟩ hnone => ?_⟩
  · obtain ⟨x, hx⟩ := Option.ne_none_iff_exists'.1 h
    exact ⟨x, State.activeBank_eq_some hx⟩
  · unfold State.activeBank at hnone
    split_ifs at hnone with ha hb
    cases x
    · exact ha hx
    · exact hb hx

/-- R101, R114, R10: each bank may stand beside the other, and an OPEN part has an ACTIVE bank. -/
theorem State.banksLegal_iff (s : State) :
    s.BanksLegal ↔ (∀ x, (s.bank x).Beside (s.bank x.other)) ∧
      (s.mu.service = .opened → ∃ x, (s.bank x).state = .active) := by
  rw [State.BanksLegal, State.activeBank_ne_none_iff, BankId.forall_iff]
  constructor
  · rintro ⟨⟨hboth, ha, hb⟩, hfitsa, hfitsb, hservice⟩
    exact ⟨⟨⟨fun h k => hboth ⟨h, k⟩, ha, hfitsa⟩, ⟨fun h k => hboth ⟨k, h⟩, hb, hfitsb⟩⟩, hservice⟩
  · rintro ⟨⟨⟨hboth, ha, hfitsa⟩, ⟨_, hb, hfitsb⟩⟩, hservice⟩
    exact ⟨⟨fun ⟨h, k⟩ => hboth h k, ha, hb⟩, hfitsa, hfitsb, hservice⟩

theorem State.banksLegal_of_eq (h : s.BanksLegal) (hts : t.ts = s.ts) (hservice : t.mu.service = s.mu.service) :
    t.BanksLegal := by
  unfold State.BanksLegal State.activeBank at h ⊢
  rwa [hts, hservice]

/-- A bank is replaced by one in the same state, or by one that is neither ACTIVE nor DRAINING when it was not ACTIVE. -/
theorem State.BanksLegal.setBank (h : s.BanksLegal) {x : BankId} {b : Bank}
    (hactive : b.state = .active ↔ (s.bank x).state = .active)
    (hdraining : b.state = .draining → (s.bank x).state = .draining) (hfits : b.StateFits) : (s.setBank x b).BanksLegal := by
  obtain ⟨hbeside, hservice⟩ := s.banksLegal_iff.1 h
  refine (State.banksLegal_iff _).2 ⟨fun y => ?_, fun hopen => ?_⟩
  · obtain rfl | rfl := x.eq_or_other y
    · rw [State.setBank_same, State.setBank_other]
      exact (hbeside y).of_state hactive.1 hdraining hfits
    · rw [BankId.other_other, State.setBank_same, State.setBank_other]
      have hother := hbeside x.other
      rw [BankId.other_other] at hother
      exact hother.beside_state hactive
  · obtain ⟨y, hy⟩ := hservice hopen
    refine ⟨y, ?_⟩
    obtain rfl | rfl := x.eq_or_other y
    · rw [State.setBank_same]
      exact hactive.2 hy
    · rwa [State.setBank_other]

theorem State.BanksLegal.stateFits (h : s.BanksLegal) (x : BankId) : (s.bank x).StateFits :=
  ((s.banksLegal_iff.1 h).1 x).fits

theorem State.BanksLegal.unpinBank (h : s.BanksLegal) (x : BankId) : (s.unpinBank x).BanksLegal :=
  h.setBank Bank.unpinned_active_iff Bank.unpinned_draining (Bank.stateFits_unpinned (h.stateFits x))

theorem State.BanksLegal.pinBank (h : s.BanksLegal) {x : BankId} (hx : s.activeBank = some x) : (s.pinBank x).BanksLegal :=
  h.setBank Iff.rfl id (Bank.stateFits_pinned (State.activeBank_eq_some hx) (h.stateFits x))

/-- R104: a bank that can be written holds no pin. -/
theorem State.BanksLegal.pins_of_not_busy (h : s.BanksLegal) {x : BankId} (hx : (s.bank x).busy = false) :
    (s.bank x).pins = 0 := by
  have hfits := h.stateFits x
  cases hs : (s.bank x).state with
  | empty => simpa only [Bank.StateFits, hs] using hfits
  | standby => simpa only [Bank.StateFits, hs] using hfits
  | active => simp [Bank.busy, hs] at hx
  | draining => simp [Bank.busy, hs] at hx

theorem State.BanksLegal.write (h : s.BanksLegal) {x : BankId} {b : Bank} (hbusy : (s.bank x).busy = false)
    (hstate : b.state = .standby) (hpins : b.pins = (s.bank x).pins) : (s.setBank x b).BanksLegal := by
  have hidle := mt (Bank.busy_iff (s.bank x)).2 (Bool.eq_false_iff.1 hbusy)
  refine h.setBank ⟨by rw [hstate]; nofun, fun hx => (hidle (.inl hx)).elim⟩ (by rw [hstate]; nofun) ?_
  simp only [Bank.StateFits, hstate]
  exact hpins.trans (h.pins_of_not_busy hbusy)

/-- R115, R116. -/
theorem State.BanksLegal.activate (h : s.BanksLegal) (x : BankId) : (s.activate x).2.BanksLegal := by
  unfold State.activate
  split
  next => exact h
  next => exact h
  next => exact h
  next hstandby =>
    split
    next hpasses =>
      obtain ⟨hbeside, _⟩ := s.banksLegal_iff.1 h
      have hother := hbeside x.other
      rw [BankId.other_other] at hother
      refine (State.banksLegal_iff _).2 ⟨fun y => ?_, fun _ => ⟨x, ?_⟩⟩
      · obtain rfl | rfl := x.eq_or_other y
        · rw [State.setBank_same, State.setBank_of_other, State.setBank_same]
          exact ⟨fun _ => Bank.replaced_not_active, nofun, hpasses⟩
        · rw [State.setBank_same, BankId.other_other, State.setBank_of_other]
          exact hother.replaced hstandby (by rw [State.setBank_same])
      · rw [State.setBank_of_other, State.setBank_same]
    next => exact h

/-- R5, R99: at power-up both banks are EMPTY, and the part is CLOSED. -/
theorem State.banksLegal_atPowerUp (pins : Pins) (q : RecordQueue) : (s.atPowerUp pins q).BanksLegal :=
  ⟨⟨nofun, nofun, nofun⟩, rfl, rfl, nofun⟩

theorem State.CallMove.banksLegal {c : Instr} (hmove : s.CallMove c t) (h : s.BanksLegal) : t.BanksLegal := by
  cases hmove with
  | same hsame => exact State.banksLegal_of_eq h hsame.ts hsame.service
  | station i r o => exact State.banksLegal_of_eq h rfl rfl
  | store i x r o => exact State.banksLegal_of_eq (h.unpinBank x.bank) rfl rfl
  | enterCall i bank r _ _ hactive => exact State.banksLegal_of_eq (h.pinBank hactive) rfl rfl
  | inPlace f g => exact State.banksLegal_of_eq h rfl rfl
  | write x b hbusy hstate hpins => exact h.write hbusy hstate hpins
  | activate x => exact h.activate x
  | service v hv =>
    obtain ⟨hpair, hfitsa, hfitsb, _⟩ := h
    exact ⟨hpair, hfitsa, hfitsb, hv⟩
  | putIn _ i =>
    unfold State.putInService
    split
    next => exact State.banksLegal_of_eq h rfl rfl
    next => exact h
  | release => exact State.banksLegal_of_eq h rfl rfl
  | power => exact State.banksLegal_atPowerUp _ _
  | vbak => exact State.banksLegal_of_eq h rfl rfl

end

/-- Settles O52: every move of the calls keeps the banks legal. -/
theorem banksLegalAlways : Obligations.BanksLegalAlways := kept_of_callMove fun hmove => hmove.banksLegal

end Sys2Proof.Machine

/-! # Stations and the call cycle (01): holdings, pins and reservations -/

namespace Sys2Proof.Machine

/-! ## Counting stations -/

theorem PerStation.countP_set {α : Type} (p : α → Bool) (v : PerStation α) (i : StationId) (a : α) :
    (v.set i a).values.countP p + (p (v.get i)).toNat = v.values.countP p + (p a).toNat := by
  have hi : i.val < v.values.length := v.size.symm ▸ i.isLt
  have hset : (v.values.set i.val a).countP p =
      v.values.countP p - (if p (v.get i) then 1 else 0) + (if p a then 1 else 0) := List.countP_set hi
  have hpos (hp : p (v.get i) = true) : 0 < v.values.countP p :=
    List.countP_pos_iff.2 ⟨v.get i, (v.mem_values _).2 ⟨i, rfl⟩, hp⟩
  rw [PerStation.set, hset]
  cases hold : p (v.get i) with
  | false => cases p a <;> rfl
  | true =>
    have hsome := hpos hold
    cases p a <;> simp <;> omega

theorem PerStation.countP_fill {α : Type} {p : α → Bool} {a : α} (h : p a = false) :
    (PerStation.fill a).values.countP p = 0 := by
  rw [PerStation.fill, List.countP_replicate, h]
  rfl

theorem PerStation.countP_pos {α : Type} {p : α → Bool} {v : PerStation α} {i : StationId} (h : p (v.get i) = true) :
    0 < v.values.countP p := List.countP_pos_iff.2 ⟨v.get i, (v.mem_values _).2 ⟨i, rfl⟩, h⟩

theorem StationRecord.pinnedTo_eq (r : StationRecord) (x : BankId) : r.pinnedTo x = (r.callBank == some x) := by
  cases hctx : r.context <;> simp [StationRecord.pinnedTo, StationRecord.callBank, hctx]

theorem StationRecord.isSome_context (r : StationRecord) : r.context.isSome = r.callBank.isSome :=
  Option.isSome_map.symm

theorem State.callsCounted_iff (s : State) : s.CallsCounted ↔
    (∀ i, (s.station i).Fits (s.order i)) ∧ (∀ x, s.PinsCounted x) ∧ s.PlacesCounted := by
  rw [BankId.forall_iff, and_assoc]
  rfl

/-! ## One station's record changes -/

section
variable {s t : State}

theorem State.callsCounted_of_eq (h : s.CallsCounted) (hcc : t.cc = s.cc) (horders : t.de.orders = s.de.orders)
    (hpins : ∀ x, (t.bank x).pins = (s.bank x).pins) (hreserved : t.rq.reservations = s.rq.reservations)
    (hrecords : t.rq.records.length ≤ s.rq.records.length) (hstore : t.rq.store.records.length ≤ recordRoom) :
    t.CallsCounted := by
  obtain ⟨hfits, hcounted, hplaces, hroom, _⟩ := s.callsCounted_iff.1 h
  refine t.callsCounted_iff.2 ⟨fun i => ?_, fun x => ?_, ?_, by omega, hstore⟩
  · rw [State.station, State.order, hcc, horders]
    exact hfits i
  · rw [State.PinsCounted, hcc, hpins]
    exact hcounted x
  · rw [hcc, hreserved]
    exact hplaces

/-- The record and the order of station `i` become `r` and `o`, pins and reservations go with the call, and the records
find room. -/
theorem State.callsCounted_of_station (h : s.CallsCounted) {i : StationId} {r : StationRecord} {o : Option BurnOrder}
    (hcc : t.cc = s.cc.set i r) (horders : t.de.orders = s.de.orders.set i o) (hfits : r.Fits o)
    (hpins : ∀ x, (t.bank x).pins + ((s.station i).callBank == some x).toNat = (s.bank x).pins + (r.callBank == some x).toNat)
    (hreserved : t.rq.reservations + (s.station i).callBank.isSome.toNat = s.rq.reservations + r.callBank.isSome.toNat)
    (hroom : t.rq.records.length + t.rq.reservations ≤ recordRoom) (hstore : t.rq.store.records.length ≤ recordRoom) :
    t.CallsCounted := by
  obtain ⟨hold, hcounted, hplaces, _, _⟩ := s.callsCounted_iff.1 h
  refine t.callsCounted_iff.2 ⟨fun j => ?_, fun x => ?_, ?_, hroom, hstore⟩
  · rw [State.station, State.order, hcc, horders]
    by_cases hij : j = i
    · subst hij
      rwa [PerStation.get_set_same, PerStation.get_set_same]
    · rw [PerStation.get_set_other _ _ _ _ hij, PerStation.get_set_other _ _ _ _ hij]
      exact hold j
  · have hset := s.cc.countP_set (StationRecord.pinnedTo · x) i r
    rw [StationRecord.pinnedTo_eq, StationRecord.pinnedTo_eq] at hset
    have hbefore : (s.bank x).pins = s.cc.values.countP (StationRecord.pinnedTo · x) := hcounted x
    have hx := hpins x
    rw [State.PinsCounted, hcc]
    rw [State.station] at hx
    omega
  · have hset := s.cc.countP_set (·.context.isSome) i r
    rw [StationRecord.isSome_context, StationRecord.isSome_context] at hset
    rw [State.station] at hreserved
    rw [hcc]
    omega

section
variable (h : s.CallsCounted) (i : StationId)
include h

theorem State.CallsCounted.fits : (s.station i).Fits (s.order i) := (s.callsCounted_iff.1 h).1 i

/-- A call goes on at its bank, or there is none before or after. -/
theorem State.CallsCounted.station {r : StationRecord} {o : Option BurnOrder}
    (hbank : r.callBank = (s.station i).callBank) (hfits : r.Fits o) : ((s.setStation i r).setOrder i o).CallsCounted := by
  obtain ⟨_, _, _, hroom, hstore⟩ := s.callsCounted_iff.1 h
  exact State.callsCounted_of_station h (i := i) (r := r) (o := o) rfl rfl hfits (fun x => by rw [hbank]; rfl)
    (by rw [hbank]; rfl) hroom hstore

variable {bank : BankId}

/-- R99, R135: a station with a call holds a pin and a reservation. -/
theorem State.CallsCounted.pinned (hbank : (s.station i).callBank = some bank) :
    0 < (s.bank bank).pins ∧ 0 < s.rq.reservations := by
  obtain ⟨_, hcounted, hplaces, _⟩ := s.callsCounted_iff.1 h
  refine ⟨(hcounted bank).symm ▸ PerStation.countP_pos (i := i) ?_, hplaces.symm ▸ PerStation.countP_pos (i := i) ?_⟩
  · rw [StationRecord.pinnedTo_eq]
    exact beq_iff_eq.2 hbank
  · rw [StationRecord.isSome_context]
    exact Option.isSome_iff_exists.2 ⟨bank, hbank⟩

/-- R21: the record takes the place of the reservation, and the pin goes. -/
theorem State.CallsCounted.store {x : CallContext} {r : StationRecord} {o : Option BurnOrder}
    (hbank : (s.station i).callBank = some x.bank) (hctx : r.context = none) (hfits : r.Fits o) :
    ((((s.storeRecord i x).unpinBank x.bank).setStation i r).setOrder i o).CallsCounted := by
  obtain ⟨_, _, _, hroom, _⟩ := s.callsCounted_iff.1 h
  obtain ⟨hpin, hplace⟩ := h.pinned i hbank
  have hnone : r.callBank = none := by rw [StationRecord.callBank, hctx]; rfl
  have hlength : (s.rq.records ++ [buildRecord s.rq.nextNumber i x]).length = s.rq.records.length + 1 := List.length_append
  refine State.callsCounted_of_station h (i := i) (r := r) (o := o) rfl rfl hfits (fun y => ?_) ?_ ?_ ?_
  · rw [hbank, hnone]
    obtain rfl | rfl := x.bank.eq_or_other y
    · show (((s.storeRecord i x).unpinBank x.bank).bank x.bank).pins + _ = _
      rw [State.unpinBank_same]
      show (s.bank x.bank).pins - 1 + _ = _
      simp
      omega
    · show (((s.storeRecord i x).unpinBank x.bank).bank x.bank.other).pins + _ = _
      have hne : (some x.bank == some x.bank.other) = false := by simp [(BankId.other_ne x.bank).symm]
      rw [hne, State.unpinBank, State.setBank_other]
      rfl
  · rw [hbank, hnone]
    show s.rq.reservations - 1 + 1 = s.rq.reservations + 0
    omega
  · show (s.rq.records ++ [buildRecord s.rq.nextNumber i x]).length + (s.rq.reservations - 1) ≤ recordRoom
    omega
  · show (s.rq.records ++ [buildRecord s.rq.nextNumber i x]).length ≤ recordRoom
    omega

/-- R11, R102, R136: an admitted call brings a pin and a reservation, for which there is a place. -/
theorem State.CallsCounted.enterCall {r : StationRecord}
    (hstate : (s.station i).state = .idle ∨ (s.station i).state = .ready) (hplace : s.rq.hasPlace = true)
    (hbank : r.callBank = some bank) (hfits : r.Fits (s.order i)) :
    ({ s.pinBank bank with rq := s.rq.reserve }.setStation i r).CallsCounted := by
  obtain ⟨hall, _, _, _, hstore⟩ := s.callsCounted_iff.1 h
  have hroom : s.rq.records.length + s.rq.reservations < recordRoom := of_decide_eq_true hplace
  have hnone : (s.station i).callBank = none := by
    rw [StationRecord.callBank, Option.map_eq_none_iff]
    obtain hs | hs := hstate
    · obtain ⟨_, ⟨hctx, _⟩, _⟩ := (StationRecord.holds_of_idle hs).1 (hall i).2
      exact hctx
    · obtain ⟨_, ⟨hctx, _⟩, _⟩ := (StationRecord.holds_of_ready hs).1 (hall i).2
      exact hctx
  refine State.callsCounted_of_station h (i := i) (r := r) (o := s.order i) rfl (PerStation.set_get _ i).symm hfits
    (fun y => ?_) ?_ ?_ hstore
  · rw [hbank, hnone]
    obtain rfl | rfl := bank.eq_or_other y
    · show ((s.pinBank y).bank y).pins + _ = _
      rw [State.pinBank, State.setBank_same]
      simp
    · show ((s.pinBank bank).bank bank.other).pins + _ = _
      have hne : (some bank == some bank.other) = false := by simp [(BankId.other_ne bank).symm]
      rw [hne, State.pinBank, State.setBank_other]
      rfl
  · rw [hbank, hnone]
    rfl
  · show s.rq.records.length + (s.rq.reservations + 1) ≤ recordRoom
    omega

/-- R27: a station put in is IDLE. -/
theorem State.CallsCounted.putInService : (s.putInService i).CallsCounted := by
  unfold State.putInService
  split
  next hs =>
    obtain ⟨hcls, hholds⟩ := h.fits i
    obtain ⟨hcard, hcallless, _⟩ := (StationRecord.holds_of_out hs).1 hholds
    have hput := h.station i (r := { s.station i with state := .idle, outReason := none }) (o := s.order i) rfl
      ⟨hcls, (StationRecord.holds_of_idle rfl).2 ⟨hcard, hcallless, rfl⟩⟩
    exact State.callsCounted_of_eq hput rfl (PerStation.set_get _ i).symm (fun _ => rfl) rfl le_rfl
      (s.callsCounted_iff.1 h).2.2.2.2
  next => exact h

/-- R122: every record changed in place, its call at its bank. -/
theorem State.CallsCounted.inPlace {f : StationRecord → StationRecord} {g : BurnOrder → BurnOrder}
    (hbank : ∀ r : StationRecord, (f r).callBank = r.callBank)
    (hfits : ∀ (r : StationRecord) (o : Option BurnOrder), r.Fits o → (f r).Fits (o.map g)) :
    { s with cc := s.cc.map f, de := { s.de with orders := s.de.orders.map (Option.map g) } }.CallsCounted := by
  obtain ⟨hall, hcounted, hplaces, hroom, hstore⟩ := s.callsCounted_iff.1 h
  refine (State.callsCounted_iff _).2 ⟨fun j => ?_, fun x => ?_, ?_, hroom, hstore⟩
  · rw [State.station, State.order, PerStation.get_map, PerStation.get_map]
    exact hfits _ _ (hall j)
  · refine (hcounted x).trans ?_
    simp only [PerStation.map, List.countP_map, Function.comp_def, StationRecord.pinnedTo_eq, hbank]
  · refine hplaces.trans ?_
    simp only [PerStation.map, List.countP_map, Function.comp_def, StationRecord.isSome_context, hbank]

end

/-! ## Banks, releases and power -/

theorem State.pins_setBank {x : BankId} {b : Bank} (hpins : b.pins = (s.bank x).pins) (y : BankId) :
    ((s.setBank x b).bank y).pins = (s.bank y).pins := by
  obtain rfl | rfl := x.eq_or_other y
  · rw [State.setBank_same, hpins]
  · rw [State.setBank_other]

/-- R116: an activation moves no pin. -/
theorem State.pins_activate (x y : BankId) : ((s.activate x).2.bank y).pins = (s.bank y).pins := by
  unfold State.activate
  split
  next => rfl
  next => rfl
  next => rfl
  next =>
    split
    next =>
      rw [State.pins_setBank (by rw [State.setBank_other]; rfl), State.pins_setBank (by rfl)]
    next => rfl

theorem State.activate_frame (x : BankId) :
    (s.activate x).2.cc = s.cc ∧ (s.activate x).2.de = s.de ∧ (s.activate x).2.rq = s.rq := by
  unfold State.activate
  split
  next => exact ⟨rfl, rfl, rfl⟩
  next => exact ⟨rfl, rfl, rfl⟩
  next => exact ⟨rfl, rfl, rfl⟩
  next => split <;> exact ⟨rfl, rfl, rfl⟩

/-- R5: at power-up every station is IDLE with class 1, and nothing is pinned or reserved. -/
theorem State.callsCounted_atPowerUp (pins : Pins) {q : RecordQueue} (hplaces : q.reservations = 0)
    (hrecords : q.records.length ≤ recordRoom) (hstore : q.store.records.length ≤ recordRoom) :
    (s.atPowerUp pins q).CallsCounted := by
  refine (State.callsCounted_iff _).2 ⟨fun i => ?_, fun x => ?_, ?_, ?_, hstore⟩
  · rw [State.atPowerUp_station, State.atPowerUp_order]
    exact ⟨⟨le_rfl, by decide⟩, (StationRecord.holds_of_idle rfl).2 ⟨rfl, ⟨rfl, rfl, ⟨rfl, rfl, rfl⟩, rfl, rfl⟩, rfl⟩⟩
  · rw [State.PinsCounted, State.atPowerUp_bank]
    exact (PerStation.countP_fill (a := StationRecord.reset) rfl).symm
  · exact hplaces.trans (PerStation.countP_fill (a := StationRecord.reset) rfl).symm
  · show q.records.length + q.reservations ≤ recordRoom
    omega

theorem State.CallMove.callsCounted {c : Instr} (hmove : s.CallMove c t) (h : s.CallsCounted) : t.CallsCounted := by
  obtain ⟨_, _, _, hroom, hstore⟩ := s.callsCounted_iff.1 h
  cases hmove with
  | same hsame =>
    exact State.callsCounted_of_eq h hsame.cc hsame.orders (fun x => by rw [State.bank, hsame.ts]; rfl)
      (by rw [hsame.rq]) (by rw [hsame.rq]) (by rwa [hsame.rq])
  | station i r o _ hbank hfits => exact h.station i (hbank (h.fits i)) (hfits (h.fits i))
  | store i x r o _ hbank hctx hfits => exact h.store i hbank hctx (hfits (h.fits i))
  | enterCall i bank r hstate hplace _ hbank hfits => exact h.enterCall i hstate hplace hbank (hfits (h.fits i))
  | inPlace f g _ hbank hfits => exact h.inPlace hbank hfits
  | write x b _ _ hpins => exact State.callsCounted_of_eq h rfl rfl (State.pins_setBank hpins) rfl le_rfl hstore
  | activate x =>
    obtain ⟨hcc, hde, hrq⟩ := s.activate_frame x
    exact State.callsCounted_of_eq h hcc (by rw [hde]) (State.pins_activate x) (by rw [hrq]) (by rw [hrq]) (by rwa [hrq])
  | service => exact State.callsCounted_of_eq h rfl rfl (fun _ => rfl) rfl le_rfl hstore
  | putIn _ i => exact h.putInService i
  | release _ n =>
    have hlength : (s.rq.release n).records.length ≤ s.rq.records.length := List.length_filter_le _ _
    exact State.callsCounted_of_eq h rfl rfl (fun _ => rfl) rfl hlength
      (hlength.trans ((Nat.le_add_right _ _).trans hroom))
  | power _ pins q hplaces hjudged =>
    obtain ⟨hrecords, hstored⟩ := hjudged hstore
    exact State.callsCounted_atPowerUp pins hplaces hrecords hstored
  | vbak => exact State.callsCounted_of_eq h rfl rfl (fun _ => rfl) rfl le_rfl hstore

end

/-- Settles O53: every move of the calls keeps holdings, pins and reservations. -/
theorem callsCountedAlways : Obligations.CallsCountedAlways := kept_of_callMove fun hmove => hmove.callsCounted

end Sys2Proof.Machine

/-! # What stays true: at reset -/

namespace Sys2Proof.Machine

/-! ## The part after a power-up that found nothing retained -/

/-- Log 13: reset is the power-up state with nothing retained. -/
theorem State.reset_eq_atPowerUp : State.reset = State.reset.atPowerUp State.reset.pins .reset := rfl

/-- R144, R145: ATTN is driven, the link being DOWN, and the retained store is current. -/
theorem State.powerRight_reset : State.reset.PowerRight := by
  have hattn : State.reset.attnHolds = true := State.reset.attnHolds_iff.2 (.inr (.inl rfl))
  exact (State.powerRight_iff_of_running rfl).2 ⟨⟨rfl, rfl⟩, hattn.symm⟩

/-- R53, R61, R92, R121, R134. -/
theorem State.numbersLegal_reset : State.reset.NumbersLegal := by
  refine ⟨nofun, nofun, State.reset.forall_failures_iff.2 fun i => ?_, ?_, RecordQueue.numbered_reset⟩
  · rw [State.reset_eq_atPowerUp, State.atPowerUp_failures]
    exact Nat.zero_le _
  · exact ⟨.inl rfl, Nat.zero_le _, Nat.zero_le _, Nat.zero_le _, Nat.zero_le _, rfl⟩

/-- R61, R62, R99, R180. -/
theorem State.tablesLegal_reset : State.reset.TablesLegal := by
  refine (State.tablesLegal_iff _).2 ⟨show 0 < 64 by decide, ⟨SlotTable.wf_nil _, nofun⟩,
    ⟨SlotTable.wf_nil _, nofun, List.nodup_nil⟩, fun x => ?_⟩
  rw [State.reset_eq_atPowerUp, State.atPowerUp_bank]
  exact Bank.tablesLegal_reset

/-- R54: no card, and every station IDLE. -/
theorem State.cardsAgree_reset : State.reset.CardsAgree := by
  refine State.cardsAgree_of_emptied rfl fun i => ?_
  rw [State.reset_eq_atPowerUp, State.atPowerUp_station]
  exact ⟨rfl, nofun⟩

/-- Settles O57: invariant by invariant. -/
theorem invariantsHoldAtReset : Obligations.InvariantsHoldAtReset :=
  ⟨State.linesAgree_atPowerUp (s := State.reset) State.reset.pins .reset, State.powerRight_reset, State.numbersLegal_reset,
    State.tablesLegal_reset, State.banksLegal_atPowerUp (s := State.reset) State.reset.pins .reset,
    State.callsCounted_atPowerUp (s := State.reset) State.reset.pins rfl (Nat.zero_le _) (Nat.zero_le _),
    ⟨State.cardsAgree_reset, Nat.zero_le _⟩, ⟨State.cardsAgree_reset, List.nodup_nil, Nat.zero_le _, nofun⟩,
    State.tagsLegal_atPowerUp (s := State.reset) State.reset.pins .reset⟩

end Sys2Proof.Machine

/-! # Management (11): what a line restart leaves in every block (R188) -/

namespace Sys2Proof.Machine

/-! ## Records stored one after another -/

/-- R137: a queue of calls is stored, each with its station. -/
def RecordQueue.appendAll (q : RecordQueue) (calls : List (StationId × CallContext)) : RecordQueue :=
  calls.foldl (fun q c => q.append c.1 c.2) q

section
variable (q : RecordQueue) (calls : List (StationId × CallContext))

theorem RecordQueue.appendAll_cons (c : StationId × CallContext) :
    q.appendAll (c :: calls) = (q.append c.1 c.2).appendAll calls := rfl

theorem RecordQueue.appendAll_nextNumber : (q.appendAll calls).nextNumber = nextRecordNumber^[calls.length] q.nextNumber := by
  induction calls generalizing q with
  | nil => rfl
  | cons c calls ih => exact ih _

/-- R134: the numbers are consecutive. -/
theorem RecordQueue.appendAll_records : (q.appendAll calls).records =
    q.records ++ calls.mapIdx fun k c => buildRecord (nextRecordNumber^[k] q.nextNumber) c.1 c.2 := by
  induction calls generalizing q with
  | nil => exact (List.append_nil _).symm
  | cons c calls ih =>
    rw [RecordQueue.appendAll_cons, ih, List.mapIdx_cons, List.append_cons]
    rfl

theorem RecordQueue.appendAll_retained : (q.appendAll calls).retained = q.retained := by
  induction calls generalizing q with
  | nil => rfl
  | cons c calls ih => exact ih _

theorem RecordQueue.Stored.appendAll {q : RecordQueue} (h : q.Stored) : (q.appendAll calls).Stored := by
  induction calls generalizing q with
  | nil => exact h
  | cons c calls ih => exact ih (RecordQueue.stored_append q _ _)

end

/-! ## Stations restarted one after another -/

/-- R28: the call that the restart of station `i` stores, as the restart leaves its context. -/
def State.restartCall (s : State) (i : StationId) : Option (StationId × CallContext) :=
  if (s.station i).hasCall then
    (s.station i).context.map fun x => (i, CallContext.restarted s.elapsed (s.station i) (s.order i) x)
  else none

section
variable (s : State) (i : StationId)

theorem State.restartStation_same : (s.restartStation i).station i = (s.station i).restarted := by
  rw [State.restartStation_eq, State.setStation_same]

theorem State.restartStation_other {j : StationId} (h : j ≠ i) : (s.restartStation i).station j = s.station j := by
  rw [State.restartStation_eq, State.setStation_other _ _ _ _ h, State.storeRestart_station]

/-- R28: what a station's restart leaves unchanged. -/
theorem State.restartStation_frame : s.restartStation i =
    { s with cc := (s.restartStation i).cc, ts := (s.restartStation i).ts, rq := (s.restartStation i).rq } := by
  rw [State.restartStation_eq]
  unfold State.storeRestart
  split <;> rfl

theorem State.restartStation_rq : (s.restartStation i).rq = s.rq.appendAll (s.restartCall i).toList := by
  rw [State.restartStation_eq]
  unfold State.storeRestart State.restartCall
  cases (s.station i).hasCall <;> cases (s.station i).context <;> rfl

theorem State.restartCall_other {j : StationId} (h : j ≠ i) : (s.restartStation i).restartCall j = s.restartCall j := by
  have horder : (s.restartStation i).order j = s.order j := by rw [State.order, State.restartStation_frame]; rfl
  have helapsed : (s.restartStation i).elapsed = s.elapsed := by rw [State.restartStation_frame]
  rw [State.restartCall, State.restartCall, s.restartStation_other i h, horder, helapsed]

variable {l : List StationId}

theorem State.foldl_restartStation_station (hl : l.Nodup) :
    (l.foldl State.restartStation s).station i = if i ∈ l then (s.station i).restarted else s.station i := by
  induction l generalizing s with
  | nil => rfl
  | cons j l ih =>
    obtain ⟨hj, hrest⟩ := List.nodup_cons.1 hl
    rw [List.foldl_cons, ih _ hrest]
    by_cases hij : i = j
    · subst hij
      rw [if_neg hj, if_pos List.mem_cons_self, State.restartStation_same]
    · simp only [s.restartStation_other j hij, List.mem_cons, hij, false_or]

/-- R28: the calls are stored in the order of the stations. -/
theorem State.foldl_restartStation_rq (hl : l.Nodup) :
    (l.foldl State.restartStation s).rq = s.rq.appendAll (l.filterMap s.restartCall) := by
  induction l generalizing s with
  | nil => rfl
  | cons j l ih =>
    obtain ⟨hj, hrest⟩ := List.nodup_cons.1 hl
    have hcalls : l.filterMap (s.restartStation j).restartCall = l.filterMap s.restartCall :=
      List.filterMap_congr fun k hk => s.restartCall_other j fun hkj => hj (hkj ▸ hk)
    rw [List.foldl_cons, ih _ hrest, hcalls, State.restartStation_rq]
    cases hcall : s.restartCall j with
    | none => rw [List.filterMap_cons_none hcall]; rfl
    | some c => rw [List.filterMap_cons_some hcall]; rfl

theorem State.foldl_restartStation_frame : l.foldl State.restartStation s =
    { s with cc := (l.foldl State.restartStation s).cc, ts := (l.foldl State.restartStation s).ts,
             rq := (l.foldl State.restartStation s).rq } := by
  induction l generalizing s with
  | nil => rfl
  | cons i l ih =>
    rw [List.foldl_cons]
    refine (ih (s.restartStation i)).trans ?_
    generalize l.foldl State.restartStation (s.restartStation i) = u
    rw [State.restartStation_frame]

end

/-! ## Banks that lose pins -/

/-- R103: `d` is the bank `b` with another number of pins, STANDBY perhaps if it was DRAINING. -/
def Bank.LosesPins (b d : Bank) : Prop :=
  ∃ n, d = { b with pins := n } ∨ b.state = .draining ∧ d = { b with pins := n, state := .standby }

theorem Bank.LosesPins.refl (b : Bank) : b.LosesPins b := ⟨b.pins, .inl rfl⟩

theorem Bank.LosesPins.unpinned {b d : Bank} (h : b.LosesPins d) : b.LosesPins d.unpinned := by
  obtain ⟨n, rfl | ⟨hs, rfl⟩⟩ := h
  · by_cases hlast : b.state = .draining ∧ n - 1 = 0
    · exact ⟨n - 1, .inr ⟨hlast.1, by simp only [Bank.unpinned, hlast, and_self, if_true]⟩⟩
    · exact ⟨n - 1, .inl (by simp only [Bank.unpinned, hlast, if_false])⟩
  · exact ⟨n - 1, .inr ⟨hs, by simp [Bank.unpinned]⟩⟩

/-- R101, R103: the last pin gone, a DRAINING bank is STANDBY. -/
theorem Bank.LosesPins.eq_of_fits {b d : Bank} (h : b.LosesPins d) (hpins : d.pins = 0) (hfits : d.StateFits) :
    d = { b with pins := 0, state := if b.state = .draining then .standby else b.state } := by
  obtain ⟨n, rfl | ⟨hs, rfl⟩⟩ := h
  · have hn : n = 0 := hpins
    have hs : b.state ≠ .draining := fun hs => by simp [Bank.StateFits, hs, hn] at hfits
    rw [if_neg hs, hn]
  · have hn : n = 0 := hpins
    rw [if_pos hs, hn]

theorem State.restartStation_losesPins {b : Bank} {u : State} {x : BankId} (h : b.LosesPins (u.bank x)) (i : StationId) :
    b.LosesPins ((u.restartStation i).bank x) := by
  have hbank : (u.restartStation i).bank x = (u.storeRestart i).bank x := by rw [State.restartStation_eq]; rfl
  rw [hbank]
  unfold State.storeRestart
  split
  next y _ _ =>
    obtain rfl | rfl := y.bank.eq_or_other x
    · rw [State.unpinBank_same]
      exact h.unpinned
    · rw [State.unpinBank, State.setBank_other]
      exact h
  next => exact h

theorem State.foldl_restartStation_losesPins (s : State) (x : BankId) :
    (s.bank x).LosesPins ((stationIds.foldl State.restartStation s).bank x) :=
  List.foldlRecOn (motive := fun u : State => (s.bank x).LosesPins (u.bank x)) stationIds State.restartStation
    (.refl _) fun _ hu i _ => State.restartStation_losesPins hu i

/-! ## The line restart -/

section
variable {s : State}

theorem State.restartLine_frame (s : State) : s.restartLine = { s with
    cc := s.restartLine.cc, ts := s.restartLine.ts, rq := s.restartLine.rq, ct := { s.ct with cards := [] },
    de := s.de.restarted, rlc := s.rlc.restarted, xlc := s.xlc.restarted } := by
  have hframe := s.foldl_restartStation_frame (l := stationIds)
  unfold State.restartLine
  generalize stationIds.foldl State.restartStation s = u at hframe ⊢
  dsimp only
  rw [hframe]

theorem State.restartLine_station (s : State) (i : StationId) : s.restartLine.station i = (s.station i).restarted := by
  have hstation := (s.foldl_restartStation_station i stationIds_nodup).trans (if_pos (mem_stationIds i))
  unfold State.restartLine
  generalize stationIds.foldl State.restartStation s = u at hstation
  exact hstation

theorem State.restartLine_rq (s : State) : s.restartLine.rq = s.rq.appendAll (stationIds.filterMap s.restartCall) := by
  have hrq := s.foldl_restartStation_rq stationIds_nodup
  unfold State.restartLine
  generalize stationIds.foldl State.restartStation s = u at hrq
  exact hrq

/-- R28, R188: no call is left, so no bank has a pin and no place is reserved. -/
theorem State.CallsCounted.restartLine (h : s.CallsCounted) :
    s.restartLine.rq.reservations = 0 ∧ ∀ x, (s.restartLine.bank x).pins = 0 := by
  have hrestarted : s.restartLine.CallsCounted :=
    (State.CallMoves.refl .restartLine s).restartLine.keeps (fun hmove => hmove.callsCounted) h
  obtain ⟨_, hpins, hplaces, _⟩ := s.restartLine.callsCounted_iff.1 hrestarted
  have hnone : ∀ r ∈ s.restartLine.cc.values, r.context = none := fun r hr => by
    obtain ⟨i, rfl⟩ := (PerStation.mem_values _ _).1 hr
    exact congrArg StationRecord.context (s.restartLine_station i)
  refine ⟨hplaces.trans (List.countP_eq_zero.2 fun r hr => ?_), fun x => (hpins x).trans (List.countP_eq_zero.2 fun r hr => ?_)⟩
  · simp [hnone r hr]
  · simp [StationRecord.pinnedTo, hnone r hr]

theorem State.BanksLegal.restartLine (h : s.BanksLegal) : s.restartLine.BanksLegal :=
  (State.CallMoves.refl .restartLine s).restartLine.keeps (fun hmove => hmove.banksLegal) h

/-- R188: the restart leaves both banks unpinned and none DRAINING. -/
theorem State.restartLine_bank (hcalls : s.CallsCounted) (hbanks : s.BanksLegal) (x : BankId) : s.restartLine.bank x =
    { s.bank x with pins := 0, state := if (s.bank x).state = .draining then .standby else (s.bank x).state } := by
  have hloses := s.foldl_restartStation_losesPins x
  have hpins := hcalls.restartLine.2 x
  have hfits := hbanks.restartLine.stateFits x
  unfold State.restartLine at hpins hfits ⊢
  generalize stationIds.foldl State.restartStation s = u at hloses hpins hfits
  exact hloses.eq_of_fits hpins hfits

/-! ## The records of the calls that the restart ends -/

/-- R28: when a call and a context come together, every context is stored. -/
theorem State.CallsCounted.restartCall (h : s.CallsCounted) (i : StationId) : s.restartCall i =
    (s.station i).context.map fun x => (i, CallContext.restarted s.elapsed (s.station i) (s.order i) x) := by
  have hcall := (h.fits i).hasCall_eq
  unfold State.restartCall
  cases hctx : (s.station i).context with
  | none => exact ite_self _
  | some x => rw [if_pos (hcall.trans (by rw [hctx]; rfl))]

theorem State.CallsCounted.restartCall_stations (h : s.CallsCounted) :
    (stationIds.filterMap s.restartCall).map Prod.fst = stationIds.filter fun i => (s.station i).context.isSome := by
  rw [List.map_filterMap, ← List.filterMap_eq_filter]
  refine List.filterMap_congr fun i _ => ?_
  rw [h.restartCall]
  cases hctx : (s.station i).context <;> simp [hctx, Option.guard]

theorem State.CallsCounted.mem_restartCall (h : s.CallsCounted) {c : StationId × CallContext}
    (hc : c ∈ stationIds.filterMap s.restartCall) {x : CallContext} (hctx : (s.station c.1).context = some x) :
    c.2 = CallContext.restarted s.elapsed (s.station c.1) (s.order c.1) x := by
  obtain ⟨i, _, hi⟩ := List.mem_filterMap.1 hc
  rw [h.restartCall, Option.map_eq_some_iff] at hi
  obtain ⟨y, hy, rfl⟩ := hi
  rw [Option.some.inj (hctx.symm.trans hy)]

end

/-- R28, R133: the record of a call that a restart ends. -/
theorem buildRecord_restarted (n now : Nat) (i : StationId) (r : StationRecord) (o : Option BurnOrder) (x : CallContext) :
    buildRecord n i (CallContext.restarted now r o x) = {
      number := n, station := i, card := x.card, dialled := x.dialled,
      charged := decide (x.kind ≠ .free), bank := x.bank, atAnswer := x.atAnswer, openTime := x.openTime,
      answered := x.answered,
      talkDuration := if r.state = .talk then now - x.answerMark.getD now else x.talkDuration.getD 0,
      intervalsBegun := x.intervalsBegun, unitsBurned := x.unitsBurned,
      unresolved := match o with
        | some o => some (x.unresolved.getD 0 + o.units)
        | none => x.unresolved,
      endCause := .restart } := by
  have hcharged : (match x.kind with | .free => false | .charged _ => true) = decide (x.kind ≠ .free) := by
    cases x.kind <;> rfl
  have htalk : (talkTenths now r x).getD 0 =
      if r.state = .talk then now - x.answerMark.getD now else x.talkDuration.getD 0 := by
    unfold talkTenths
    split <;> rfl
  rw [← hcharged, ← htalk]
  rfl

theorem StationRecord.restarted_eq (r : StationRecord) : r.restarted = { r with
    state := if r.thenOut = true ∨ r.state = .outOfService then .outOfService else .idle,
    card := none, context := none, intervals := [], thenOut := false,
    answerTimer := none, releaseTimer := none, headTimer := none } := by
  simp only [StationRecord.restarted, Bool.or_eq_true, beq_iff_eq]

/-- R188: RESTART_LINE without data bytes. -/
theorem restartLine_eq (s : State) : restartLine [] s = ⟨.done, .nothing, s.restartLine.refreshAttn⟩ := rfl

/-- Settles O47: block by block. -/
theorem lineRestart : Obligations.LineRestart := by
  intro s hrunning hcalls hbanks hstore
  have hstored : s.rq.Stored := hstore hrunning
  have hframe := s.restartLine_frame
  have hstation := s.restartLine_station
  have hbank := State.restartLine_bank hcalls hbanks
  have hrq := s.restartLine_rq
  obtain ⟨hreservations, _⟩ := hcalls.restartLine
  have hstations := hcalls.restartCall_stations
  have hmem := fun c => hcalls.mem_restartCall (c := c)
  rw [restartLine_eq]
  generalize s.restartLine = u at hframe hstation hbank hrq hreservations
  generalize stationIds.filterMap s.restartCall = stored at hrq hstations hmem
  generalize stationIds.filter _ = calls at hstations ⊢
  obtain rfl := hstations
  have hde : u.de = s.de.restarted := by rw [hframe]
  have hrecords := (congrArg RecordQueue.records hrq).trans (s.rq.appendAll_records stored)
  have hnext := (congrArg RecordQueue.nextNumber hrq).trans (s.rq.appendAll_nextNumber stored)
  have hretained := (congrArg RecordQueue.retained hrq).trans (s.rq.appendAll_retained stored)
  have hcurrent : u.rq.Stored := hrq ▸ hstored.appendAll stored
  refine ⟨rfl, rfl, fun i => (hstation i).trans (StationRecord.restarted_eq _), fun i => ?_, ?_, ?_, ?_, ?_, hbank,
    ⟨_, hrecords, ?_, fun k r x hr hctx => ?_⟩, ?_, ?_, ?_⟩
  · rw [State.refreshAttn_order, State.order, hde]
    exact PerStation.get_fill none i
  · rw [State.refreshAttn_de, hde]
    rfl
  · rw [State.refreshAttn_ct, hframe]
  · rw [State.refreshAttn_rlc, hframe]
    rfl
  · rw [State.refreshAttn_xlc, hframe]
    rfl
  · refine List.ext_getElem? fun k => ?_
    rw [List.getElem?_map, List.getElem?_mapIdx, List.getElem?_map, Option.map_map]
    rfl
  · rw [List.getElem?_mapIdx, Option.map_eq_some_iff] at hr
    obtain ⟨c, hc, rfl⟩ := hr
    rw [hmem c (List.mem_of_getElem? hc) hctx, buildRecord_restarted]
    rfl
  · rw [List.length_map, State.refreshAttn_rq]
    generalize u.rq = q at hreservations hnext hretained hcurrent
    obtain ⟨records, nextNumber, reservations, retained, store⟩ := q
    obtain rfl : reservations = 0 := hreservations
    obtain rfl : retained = s.rq.retained := hretained
    obtain rfl : nextNumber = nextRecordNumber^[stored.length] s.rq.nextNumber := hnext
    exact congrArg (RecordQueue.mk _ _ _ _) hcurrent
  · rw [hframe]
    rfl
  · rw [hframe]
    rfl

end Sys2Proof.Machine
